-- ==== Sys2Proof/Word.lean ====
section
/-! DEFINITION. The two machine words: the 8-bit data width and the 16-bit address width of R8. -/

namespace Sys2Proof

/-- An 8-bit data byte (R8). -/
abbrev Byte := BitVec 8

/-- A 16-bit address or register pair (R8). -/
abbrev Word := BitVec 16

end Sys2Proof
end

