-- ==== Sys2Proof/Config.lean ====
section
/-! DEFINITION. What an implementation or the world outside the core fixes: the parameters of R9 and
the free values.  An `opaque` constant has no body: nothing in Lean can prove which value it has, so
every statement about the model holds for every value it could have. -/

namespace Sys2Proof

/-- The five bytes of the MBC3 real-time clock (R64, R158). -/
structure Rtc where
  seconds : Byte
  minutes : Byte
  hours   : Byte
  dayLow  : Byte
  dayHigh : Byte
  deriving DecidableEq, Repr, Inhabited

/-- The two readings of `TICK_POLICY` (R9, U9): whether an Internal M-cycle delivers `Clock(4)`. -/
inductive TickPolicy where
  | perMCycle | perAccess
  deriving DecidableEq, Repr, Inhabited

/-- `TICK_POLICY`, left open by the spec (D4, log 3). -/
opaque Config.tickPolicy : TickPolicy

/-- `RAM_ENABLE_MATCH` (D30, log 7): true is LOW_NIBBLE_A, false is EXACT_0A. -/
opaque Config.ramEnableLowNibble : Bool

/-- Which of the two values `NR52_RESET` has (R9, log 9): true is 0xF0, false is 0xF1.  The byte goes
to the audio peripheral, so no core state depends on it (R66). -/
opaque Config.nr52IsSgb : Bool

/-- FREE VALUE (U6, log 4): which of the five interrupts the Peripherals request inside the `n`-th
`Clock(4)` (R913, R941). -/
opaque Config.periphRequests : Nat → BitVec 5

/-- FREE VALUE (U5, log 4): the byte the Peripherals leave at an address of `PERIPH_WRITABLE` inside
the `n`-th `Clock(4)`, or none where they leave it alone (R941). -/
opaque Config.periphStore : Nat → Nat → Option Byte

/-- FREE VALUE `PERIPH_READ` (U4, D43, log 5): what the audio peripheral answers to the `n`-th draw, a
read of an address in 0xFF10-0xFF3F (R104). -/
opaque Config.periphRead : Nat → Word → Byte

/-- FREE VALUE `RTC_NOW` (U7, D32, log 6): the host's wall clock at the `n`-th draw, an RTC latch
write (R156). -/
opaque Config.rtcNow : Nat → Rtc

/-- The audio-register range 0xFF10-0xFF3F (R104). -/
def Config.isAudio (a : Nat) : Bool := decide (0xFF10 ≤ a ∧ a ≤ 0xFF3F)

/-- `PERIPH_WRITABLE` at its default (R9, D13, log 8): 0xFF00-0xFF7F without IF, the DMA register, the
GBC register and the audio range. -/
def Config.periphWritable (a : Nat) : Bool :=
  decide (0xFF00 ≤ a ∧ a ≤ 0xFF7F ∧ a ≠ 0xFF0F ∧ a ≠ 0xFF46 ∧ a ≠ 0xFF4D) && !Config.isAudio a

/-- The addresses of `PERIPH_WRITABLE` in ascending order. -/
def Config.periphAddrs : List Nat :=
  ((List.range 0x80).map (fun i => 0xFF00 + i)).filter Config.periphWritable

/-- `NR52_RESET` (R9). -/
def Config.nr52Reset : Byte := if Config.nr52IsSgb then 0xF0 else 0xF1

/-- The rows of the power-up table outside the audio range, in ascending order (R66). -/
def Config.powerUpCore : List (Word × Byte) :=
  [(0xFF05, 0x00), (0xFF06, 0x00), (0xFF07, 0x00),
   (0xFF40, 0x91), (0xFF42, 0x00), (0xFF43, 0x00), (0xFF45, 0x00), (0xFF47, 0xFC),
   (0xFF48, 0xFF), (0xFF49, 0xFF), (0xFF4A, 0x00), (0xFF4B, 0x00), (0xFFFF, 0x00)]

/-- The rows of the power-up table in the audio range, in ascending order (R66). -/
def Config.powerUpAudio : List (Word × Byte) :=
  [(0xFF10, 0x80), (0xFF11, 0xBF), (0xFF12, 0xF3), (0xFF14, 0xBF), (0xFF16, 0x3F),
   (0xFF17, 0x00), (0xFF19, 0xBF), (0xFF1A, 0x7F), (0xFF1B, 0xFF), (0xFF1C, 0x9F),
   (0xFF1E, 0xBF), (0xFF20, 0xFF), (0xFF21, 0x00), (0xFF22, 0x00), (0xFF23, 0xBF),
   (0xFF24, 0x77), (0xFF25, 0xF3), (0xFF26, Config.nr52Reset)]

/-- The whole power-up table in ascending address order, as Reset writes it (R66, R1000). -/
def Config.powerUpTable : List (Word × Byte) :=
  Config.powerUpCore.take 3 ++ Config.powerUpAudio ++ Config.powerUpCore.drop 3

/-- What an unlisted byte of `PERIPH_WRITABLE` reads as: its power-up value, 0x00 where the table has
no row (R66, R67, log 10). -/
def Config.powerUp (a : Nat) : Byte :=
  if a = 0xFF40 then 0x91
  else if a = 0xFF47 then 0xFC
  else if a = 0xFF48 ∨ a = 0xFF49 then 0xFF
  else 0x00

end Sys2Proof
end

