-- ==== Sys2Proof/Machine/State.lean ====
section
/-! DEFINITION. The state of the core as plain data (10_state.md), the reasons a step can stop, and the
state after reset. -/

namespace Sys2Proof.Machine

/-- The four flags of F (R55).  The low nibble of F is always zero (R51), so the flags are all of F;
`flagsByte` and `flagsOfByte` are its byte view. -/
structure Flags where
  z : Bool
  n : Bool
  h : Bool
  c : Bool
  deriving DecidableEq, Repr

/-- The cartridge variant, chosen once at load (R140).  `absent`: no cartridge has been loaded. -/
inductive Variant where
  | absent | noBanking | mbc1 | mbc3
  deriving DecidableEq, Repr

/-- The Cartridge agent (R64).  `rom` and `eram` list (offset, byte) pairs in canonical form; an
unlisted offset inside the image or the RAM holds 0x00 (log 11). -/
structure Cart where
  variant    : Variant
  romLen     : Nat
  rom        : List Host.Cell
  ramLen     : Nat
  eram       : List Host.Cell
  ramEnabled : Bool
  romLow     : BitVec 5
  romHigh    : BitVec 2
  ramBank    : BitVec 2
  mode       : BitVec 1
  romBank7   : BitVec 7
  select     : Byte
  rtc        : Rtc
  deriving DecidableEq, Repr

/-- The two fatal faults.  They are recorded in `State.fault` and the core is then stuck (R900), so a
step answers a NEXT state that holds the record; no step answers `Outcome.fault` (log 12). -/
inductive Fault where
  /-- Cause 0, raised by the eleven ILLEGAL descriptors (R807, R901): the byte and the address it was
  fetched from.  Safe: nothing of the program's state changes after it. -/
  | illegalOpcode (opcode : Byte) (address : Word)
  /-- Cause 1, raised by LoadCartridge (R902): the type byte and the image's length.  Safe: no step of
  the refused image ever runs. -/
  | unsupportedCartridge (typeByte : Byte) (length : Nat)
  deriving DecidableEq, Repr

/-- Why a step has no meaning. -/
inductive Refusal where
  /-- Raised by `exec` for an instruction the model gives no meaning yet.  Safe: the run stops. -/
  | notModelled (mnemonic : String)
  /-- Raised by `step` when no cartridge has been loaded: the spec assumes that a host never does this
  and says nothing of such a run (R1021, U19, log 1).  Safe: the run stops. -/
  | noCartridge
  deriving DecidableEq, Repr

/-- The core's state.  `ticks`, `clocks`, `draws` and `opAddr` are the model's own (logs 4 to 6, 13, 14);
every other field is named by a rule of spec/. -/
structure State where
  /-- Registers (R50, R53, R54). -/
  a : Byte
  b : Byte
  c : Byte
  d : Byte
  e : Byte
  h : Byte
  l : Byte
  f : Flags
  sp : Word
  pc : Word
  /-- Hidden CPU state (R60). -/
  ime       : Bool
  eiPending : Bool
  halted    : Bool
  haltBug   : Bool
  stopped   : Bool
  fault     : Option Fault
  /-- IE at 0xFFFF (R911). -/
  ie : Byte
  /-- IF at 0xFF0F (R912). -/
  iflag : Byte
  /-- The flat array outside `PERIPH_WRITABLE`, IE and IF; an unlisted byte is 0x00 (R63, R67). -/
  mem : List Host.Cell
  /-- The flat array inside `PERIPH_WRITABLE`; an unlisted byte is its power-up value (R66, R941). -/
  io : List Host.Cell
  /-- The cartridge (R64). -/
  cart : Cart
  /-- Ticks used by the core step so far; after a step, what CoreStep returned (R1020, R1039). -/
  ticks : Nat
  /-- `Clock(4)` calls delivered so far: the index of the Peripherals' free values (R941). -/
  clocks : Nat
  /-- Audio reads and RTC latches so far: the index of their free values (R104, R156). -/
  draws : Nat
  /-- Where the running instruction's opcode byte was fetched from (R807). -/
  opAddr : Word
  deriving DecidableEq, Repr

/-- What a meaning answers. -/
abbrev Result := Host.Outcome State Fault Refusal

/-- The RTC fields at load: all zero (R160). -/
def rtcZero : Rtc := { seconds := 0, minutes := 0, hours := 0, dayLow := 0, dayHigh := 0 }

/-- No cartridge: nothing in ROM or RAM, the banking fields at their load values (R160, log 1). -/
def Cart.absent : Cart :=
  { variant := .absent, romLen := 0, rom := [], ramLen := 0, eram := [], ramEnabled := false,
    romLow := 1, romHigh := 0, ramBank := 0, mode := 0, romBank7 := 1, select := 0, rtc := rtcZero }

/-- F = 0xB0: Z = 1, N = 0, H = 1, C = 1 (R67). -/
def Flags.reset : Flags := { z := true, n := false, h := true, c := true }

/-- The core right after Reset (R67, R1000, R1002), with no cartridge loaded yet: the spec's reset
changes no cartridge field (R1001), and the cartridge is the host's to load (R1010, logs 1 and 2). -/
def State.reset : State :=
  { a := 0x01, b := 0x00, c := 0x13, d := 0x00, e := 0xD8, h := 0x01, l := 0x4D, f := Flags.reset,
    sp := 0xFFFE, pc := 0x0100,
    ime := false, eiPending := false, halted := false, haltBug := false, stopped := false, fault := none,
    ie := 0x00, iflag := 0x00, mem := [], io := [], cart := Cart.absent,
    ticks := 0, clocks := 0, draws := 0, opAddr := 0 }

end Sys2Proof.Machine
end

