-- ==== Sys2Proof/Machine/Flags.lean ====
section
/-! DEFINITION. F as a byte, the carry helpers of R57, and the result and flags of every arithmetic,
logic, rotate and bit operation (41_alu8.md, 42_alu16.md, 43_rotate_bit.md). -/

namespace Sys2Proof.Machine

/-- F as PUSH AF stores it: Z N H C in bits 7..4, zeros below (R51, R55). -/
def flagsByte (f : Flags) : Byte :=
  BitVec.ofBool f.z ++ BitVec.ofBool f.n ++ BitVec.ofBool f.h ++ BitVec.ofBool f.c ++ (0 : BitVec 4)

/-- F as POP AF loads it: bits 7..4 of the byte, the low nibble dropped (R51, R331). -/
def flagsOfByte (v : Byte) : Flags :=
  { z := v.getLsbD 7, n := v.getLsbD 6, h := v.getLsbD 5, c := v.getLsbD 4 }

/-! ## The helpers of R57, over unbounded integers -/

/-- `hc_add8`: carry out of bit 3. -/
def hcAdd8 (a b : Byte) (c : Bool) : Bool := decide (a.toNat % 16 + b.toNat % 16 + c.toNat > 0xF)

/-- `cy_add8`: carry out of bit 7. -/
def cyAdd8 (a b : Byte) (c : Bool) : Bool := decide (a.toNat + b.toNat + c.toNat > 0xFF)

/-- `hc_sub8`: borrow at bit 3. -/
def hcSub8 (a b : Byte) (c : Bool) : Bool := decide (a.toNat % 16 < b.toNat % 16 + c.toNat)

/-- `cy_sub8`: borrow at bit 7. -/
def cySub8 (a b : Byte) (c : Bool) : Bool := decide (a.toNat < b.toNat + c.toNat)

/-- `hc_add16`: carry out of bit 11. -/
def hcAdd16 (a b : Word) : Bool := decide (a.toNat % 4096 + b.toNat % 4096 > 0xFFF)

/-- `cy_add16`: carry out of bit 15. -/
def cyAdd16 (a b : Word) : Bool := decide (a.toNat + b.toNat > 0xFFFF)

/-- A carry as a byte to add. -/
def carryByte (c : Bool) : Byte := if c then 1 else 0

/-! ## The 8-bit ALU -/

/-- ADD and ADC with carry-in `c` (R400, R403). -/
def addFlags (a b : Byte) (c : Bool) : Byte × Flags :=
  let r := a + b + carryByte c
  (r, { z := r == 0, n := false, h := hcAdd8 a b c, c := cyAdd8 a b c })

/-- SUB, SBC and CP with borrow-in `c` (R406, R409, R421). -/
def subFlags (a b : Byte) (c : Bool) : Byte × Flags :=
  let r := a - b - carryByte c
  (r, { z := r == 0, n := true, h := hcSub8 a b c, c := cySub8 a b c })

/-- AND, XOR and OR: Z from the result, N and C cleared, H as given (R412, R415, R418). -/
def logicFlags (r : Byte) (h : Bool) : Byte × Flags :=
  (r, { z := r == 0, n := false, h := h, c := false })

/-- The byte and flags an 8-bit ALU operation computes from A, its operand and the carry flag. -/
def aluCompute (op : AluOp) (a b : Byte) (c : Bool) : Byte × Flags :=
  match op with
  | .add => addFlags a b false
  | .adc => addFlags a b c
  | .sub => subFlags a b false
  | .sbc => subFlags a b c
  | .and => logicFlags (a &&& b) true
  | .xor => logicFlags (a ^^^ b) false
  | .or => logicFlags (a ||| b) false
  | .cp => subFlags a b false

/-- What A holds after: CP writes only the flags (R421). -/
def aluA (op : AluOp) (a b : Byte) (c : Bool) : Byte :=
  match op with
  | .cp => a
  | _ => (aluCompute op a b c).1

/-- The flags after an 8-bit ALU operation. -/
def aluFlags (op : AluOp) (a b : Byte) (c : Bool) : Flags := (aluCompute op a b c).2

/-- The flags of an 8-bit INC of `v`: C is kept (R424). -/
def incFlags (f : Flags) (v : Byte) : Flags :=
  { z := v + 1 == 0, n := false, h := v.toNat % 16 == 0xF, c := f.c }

/-- The flags of an 8-bit DEC of `v`: C is kept (R426). -/
def decFlags (f : Flags) (v : Byte) : Flags :=
  { z := v - 1 == 0, n := true, h := v.toNat % 16 == 0x0, c := f.c }

/-- A and C after DAA's 0x60 step following an addition (R428). -/
def daaHigh (a : Byte) (c : Bool) : Byte × Bool :=
  if c || decide (a.toNat > 0x99) then (a + 0x60, true) else (a, c)

/-- A after DAA's 0x06 step following an addition (R428). -/
def daaLow (a : Byte) (h : Bool) : Byte :=
  if h || decide (a.toNat % 16 > 0x09) then a + 0x06 else a

/-- DAA: the adjusted A and the flags; N is kept and H cleared (R428). -/
def daaCompute (a : Byte) (f : Flags) : Byte × Flags :=
  let r :=
    if f.n then
      let a1 := if f.c then a - 0x60 else a
      (if f.h then a1 - 0x06 else a1, f.c)
    else
      (daaLow (daaHigh a f.c).1 f.h, (daaHigh a f.c).2)
  (r.1, { z := r.1 == 0, n := f.n, h := false, c := r.2 })

/-- CPL's flags (R429). -/
def cplFlags (f : Flags) : Flags := { f with n := true, h := true }

/-- SCF's flags (R430). -/
def scfFlags (f : Flags) : Flags := { f with n := false, h := false, c := true }

/-- CCF's flags (R431). -/
def ccfFlags (f : Flags) : Flags := { f with n := false, h := false, c := !f.c }

/-! ## 16-bit arithmetic -/

/-- ADD HL,rr's flags: Z is kept (R500). -/
def addHLFlags (f : Flags) (a b : Word) : Flags :=
  { z := f.z, n := false, h := hcAdd16 a b, c := cyAdd16 a b }

/-- The flags of ADD SP,e and LD HL,SP+e: the unsigned 8-bit sum of SP's low byte and the raw
displacement byte (R332, R503). -/
def spOffsetFlags (spLow e : Byte) : Flags :=
  { z := false, n := false, h := hcAdd8 spLow e false, c := cyAdd8 spLow e false }

/-! ## Rotates, shifts and bits -/

/-- `Shift(op, v, c)`: the result and the bit shifted out (R626). -/
def shift (op : RotOp) (v : Byte) (c : Bool) : Byte × Bool :=
  match op with
  | .rlc => (v.extractLsb' 0 7 ++ v.extractLsb' 7 1, v.getLsbD 7)
  | .rrc => (v.extractLsb' 0 1 ++ v.extractLsb' 1 7, v.getLsbD 0)
  | .rl => (v.extractLsb' 0 7 ++ BitVec.ofBool c, v.getLsbD 7)
  | .rr => (BitVec.ofBool c ++ v.extractLsb' 1 7, v.getLsbD 0)
  | .sla => (v.extractLsb' 0 7 ++ (0 : BitVec 1), v.getLsbD 7)
  | .sra => (v.extractLsb' 7 1 ++ v.extractLsb' 1 7, v.getLsbD 0)
  | .srl => ((0 : BitVec 1) ++ v.extractLsb' 1 7, v.getLsbD 0)
  | .swap => (v.extractLsb' 0 4 ++ v.extractLsb' 4 4, false)

/-- The flags of a CB rotate, shift or SWAP: Z from the result, C the bit shifted out (R627, R616). -/
def shiftFlags (r : Byte × Bool) : Flags := { z := r.1 == 0, n := false, h := false, c := r.2 }

/-- The flags of the accumulator rotates: Z is always cleared (R600 to R603). -/
def accRotFlags (r : Byte × Bool) : Flags := { z := false, n := false, h := false, c := r.2 }

/-- The flags of BIT b on `v`: C is kept (R620). -/
def bitFlags (f : Flags) (v : Byte) (b : Fin 8) : Flags :=
  { z := !v.getLsbD b.val, n := false, h := true, c := f.c }

/-- `1 << b` as a byte (R622). -/
def bitMask (b : Fin 8) : Byte := BitVec.ofNat 8 (2 ^ b.val)

/-- RES b: one bit cleared (R622). -/
def resBit (v : Byte) (b : Fin 8) : Byte := v &&& ~~~(bitMask b)

/-- SET b: one bit set (R624). -/
def setBit (v : Byte) (b : Fin 8) : Byte := v ||| bitMask b

end Sys2Proof.Machine
end

