-- ==== Sys2Proof/Machine/Bits.lean ====
section
/-! DEFINITION. The bit-field, byte-order and sign-extension helpers of R10 and R209. -/

namespace Sys2Proof

/-- Bits 15..8, the high byte (R52, R108). -/
def hi8 (w : Word) : Byte := w.extractLsb' 8 8

/-- Bits 7..0, the low byte (R52, R108). -/
def lo8 (w : Word) : Byte := w.extractLsb' 0 8

/-- The 16-bit value with the given halves, `(high << 8) | low` (R52). -/
def mkWord (hi lo : Byte) : Word := hi ++ lo

/-- `sext_16` of a signed displacement byte (R10, R209). -/
def sext16 (e : Byte) : Word := e.signExtend 16

/-- The high-page address `0xFF00 + zext_16(n)` of the LDH forms (R209, R340). -/
def highPage (n : Byte) : Word := 0xFF00 + n.setWidth 16

end Sys2Proof
end

