-- ==== Sys2Proof/Machine/Memory.lean ====
section
/-! DEFINITION. Memory as a list of (address, byte) pairs in ONE canonical form: addresses strictly
rising, and no entry equal to what an unlisted address reads as, which the argument `dflt` gives.
Every byte store of the model (flat array, ROM image, external RAM) is one of these lists. -/

namespace Sys2Proof.Machine

/-- The byte at an address. -/
def Memory.read (dflt : Nat → Byte) : List Host.Cell → Nat → Byte
  | [], a => dflt a
  | cell :: m, a => if cell.1 = a then cell.2 else Memory.read dflt m a

/-- List a byte at an address, in place of what was listed there. -/
def Memory.put : List Host.Cell → Nat → Byte → List Host.Cell
  | [], a, v => [(a, v)]
  | cell :: m, a, v =>
    if a < cell.1 then (a, v) :: cell :: m
    else if a = cell.1 then (a, v) :: m
    else cell :: Memory.put m a v

/-- Take an address off the list. -/
def Memory.drop (m : List Host.Cell) (a : Nat) : List Host.Cell := m.filter (fun cell => cell.1 != a)

/-- Store a byte; storing what an unlisted address reads as removes the entry. -/
def Memory.write (dflt : Nat → Byte) (m : List Host.Cell) (a : Nat) (v : Byte) : List Host.Cell :=
  if v = dflt a then Memory.drop m a else Memory.put m a v

/-- The canonical form. -/
abbrev Memory.wf (dflt : Nat → Byte) (m : List Host.Cell) : Prop :=
  m.Pairwise (fun x y => x.1 < y.1) ∧ ∀ cell ∈ m, cell.2 ≠ dflt cell.1

/-- Every listed address meets a test. -/
abbrev Memory.within (p : Nat → Bool) (m : List Host.Cell) : Prop := ∀ cell ∈ m, p cell.1 = true

/-- What an unlisted byte of the flat array, the ROM image or the external RAM reads as (R67, R142). -/
def zeroByte (_ : Nat) : Byte := 0x00

end Sys2Proof.Machine
end

