-- ==== Sys2Proof/Machine/Cartridge.lean ====
section
/-! DEFINITION. The Cartridge: ROM and external-RAM geometry, the three variants' banking controllers
and the RTC latch (20_memory.md section 4). -/

namespace Sys2Proof.Machine

/-- `romByte(off)`: the image's byte, 0xFF past its end (R141). -/
def romByte (k : Cart) (off : Nat) : Byte :=
  if off < k.romLen then Memory.read zeroByte k.rom off else 0xFF

/-- `nBanks`, at least 1 (R141). -/
def nBanks (k : Cart) : Nat := max 1 ((k.romLen + 0x3FFF) / 0x4000)

/-- The MBC1 computed bank index, bumped off 0x00, 0x20, 0x40 and 0x60 (R151). -/
def mbc1Bank (k : Cart) : Nat :=
  let b := k.romHigh.toNat * 32 + k.romLow.toNat
  if b = 0x00 ∨ b = 0x20 ∨ b = 0x40 ∨ b = 0x60 then b + 1 else b

/-- The bank the variant puts in the window 0x4000-0x7FFF, before the reduction (R144). -/
def selectedBank (k : Cart) : Nat :=
  match k.variant with
  | .absent => 1
  | .noBanking => 1
  | .mbc1 => mbc1Bank k
  | .mbc3 => k.romBank7.toNat

/-- The ROM offset behind an address of 0x4000-0x7FFF (R141, R144). -/
def upperOffset (k : Cart) (addr : Nat) : Nat :=
  (selectedBank k % nBanks k) * 0x4000 + (addr - 0x4000)

/-- `Cart.ReadRom` (R143). -/
def readRom (k : Cart) (addr : Nat) : Byte := romByte k addr

/-- `Cart.ReadUpperRom` (R144). -/
def readUpperRom (k : Cart) (addr : Nat) : Byte := romByte k (upperOffset k addr)

/-- What an address of the external window reaches (R145, R152, R157). -/
inductive ExtTarget where
  | nothing
  | ram (off : Nat)
  | rtc (index : Nat)
  deriving DecidableEq, Repr

/-- The RAM byte of a bank, its offset reduced modulo the RAM's length; nothing without RAM (R152,
R157). -/
def ramTarget (k : Cart) (bank addr : Nat) : ExtTarget :=
  if k.ramLen = 0 then .nothing
  else .ram ((0x2000 * bank + addr % 0x2000) % k.ramLen)

/-- The target of the window 0xA000-0xBFFF: nothing while it is disabled or the variant has none
(R145), else by the variant's rule (R152, R157). -/
def extTarget (k : Cart) (addr : Nat) : ExtTarget :=
  if k.ramEnabled = false then .nothing
  else match k.variant with
    | .absent => .nothing
    | .noBanking => .nothing
    | .mbc1 => ramTarget k k.ramBank.toNat addr
    | .mbc3 =>
      if k.select.toNat ≤ 0x03 then ramTarget k k.select.toNat addr
      else if 0x08 ≤ k.select.toNat ∧ k.select.toNat ≤ 0x0C then .rtc (k.select.toNat - 0x08)
      else .nothing

/-- `rtc[i]` (R155, R157). -/
def rtcField (r : Rtc) (i : Nat) : Byte :=
  match i with
  | 0 => r.seconds
  | 1 => r.minutes
  | 2 => r.hours
  | 3 => r.dayLow
  | _ => r.dayHigh

/-- `rtc[i] <- v` (R157). -/
def rtcSetField (r : Rtc) (i : Nat) (v : Byte) : Rtc :=
  match i with
  | 0 => { r with seconds := v }
  | 1 => { r with minutes := v }
  | 2 => { r with hours := v }
  | 3 => { r with dayLow := v }
  | _ => { r with dayHigh := v }

/-- `Cart.ReadExternalMemory` (R145). -/
def readExternal (k : Cart) (addr : Nat) : Byte :=
  match extTarget k addr with
  | .nothing => 0xFF
  | .ram off => Memory.read zeroByte k.eram off
  | .rtc i => rtcField k.rtc i

/-- `Cart.WriteExternalMemory` (R145). -/
def writeExternal (k : Cart) (addr : Nat) (v : Byte) : Cart :=
  match extTarget k addr with
  | .nothing => k
  | .ram off => { k with eram := Memory.write zeroByte k.eram off v }
  | .rtc i => { k with rtc := rtcSetField k.rtc i v }

/-- Whether a value enables external RAM (R147): 0x0A, and under LOW_NIBBLE_A any value with that low
nibble. -/
def enablesRam (v : Byte) : Bool :=
  (v == 0x0A) || ((v &&& 0x0F) == 0x0A && Config.ramEnableLowNibble)

/-- The MBC1's control writes (R147 to R150). -/
def writeMbc1 (k : Cart) (addr : Nat) (v : Byte) : Cart :=
  if addr < 0x2000 then { k with ramEnabled := enablesRam v }
  else if addr < 0x4000 then { k with romLow := v.setWidth 5 }
  else if addr < 0x6000 then
    if k.mode = 0 then { k with romHigh := v.setWidth 2 } else { k with ramBank := v.setWidth 2 }
  else { k with mode := v.setWidth 1 }

/-- The MBC3's control writes (R153 to R156); `now` is the value `RTC_NOW` has at this write. -/
def writeMbc3 (k : Cart) (addr : Nat) (v : Byte) (now : Rtc) : Cart :=
  if addr < 0x2000 then { k with ramEnabled := enablesRam v }
  else if addr < 0x4000 then
    { k with romBank7 := if v.setWidth 7 = (0 : BitVec 7) then 1 else v.setWidth 7 }
  else if addr < 0x6000 then { k with select := v }
  else { k with rtc := now }

/-- `Cart.WriteToRom`: a control write of the variant; NoBanking ignores all of them (R102, R146). -/
def writeToRom (k : Cart) (addr : Nat) (v : Byte) (now : Rtc) : Cart :=
  match k.variant with
  | .absent => k
  | .noBanking => k
  | .mbc1 => writeMbc1 k addr v
  | .mbc3 => writeMbc3 k addr v now

/-- Whether a control write latches the RTC, and so draws `RTC_NOW` (R156). -/
def latchesRtc (k : Cart) (addr : Nat) : Bool :=
  decide (k.variant = .mbc3) && decide (0x6000 ≤ addr)

end Sys2Proof.Machine
end

