-- ==== Sys2Proof/Machine/Ops.lean ====
section
/-! DEFINITION. The named operations over the bus, time and the interrupt controller: bus routing
(R101, R102), OAM DMA (R120), the M-cycle primitives (R12), the stack, interrupt entry and return
(R920, R921, R711) and the fatal fault (R900). -/

namespace Sys2Proof.Machine

/-! ## The flat array -/

/-- A flat-array byte, each address in its one home: IE, IF, the bytes the Peripherals may change, and
the rest (R63, R911, R912, R941). -/
def flatRead (s : State) (a : Word) : Byte :=
  if a = 0xFFFF then s.ie
  else if a = 0xFF0F then s.iflag
  else if Config.periphWritable a.toNat then Memory.read Config.powerUp s.io a.toNat
  else Memory.read zeroByte s.mem a.toNat

/-- Store a flat-array byte in its home (R63). -/
def flatWrite (s : State) (a : Word) (v : Byte) : State :=
  if a = 0xFFFF then { s with ie := v }
  else if a = 0xFF0F then { s with iflag := v }
  else if Config.periphWritable a.toNat then
    { s with io := Memory.write Config.powerUp s.io a.toNat v }
  else { s with mem := Memory.write zeroByte s.mem a.toNat v }

/-! ## Bus routing, with no tick -/

/-- The byte `BusRead(addr)` returns, routed in the order of R101. -/
def busByte (s : State) (a : Word) : Byte :=
  if a.toNat < 0x4000 then readRom s.cart a.toNat
  else if a.toNat < 0x8000 then readUpperRom s.cart a.toNat
  else if 0xA000 ≤ a.toNat ∧ a.toNat < 0xC000 then readExternal s.cart a.toNat
  else if a = 0xFF4D then 0xFF
  else if Config.isAudio a.toNat then Config.periphRead s.draws a
  else flatRead s a

/-- What a bus read leaves: a read changes no core state (R112), and an audio read uses up one draw. -/
def afterRead (s : State) (a : Word) : State :=
  { s with draws := if Config.isAudio a.toNat then s.draws + 1 else s.draws }

/-- `PeekRead(addr)`: the routed read with no tick (R12). -/
def peekRead (s : State) (a : Word) : Byte × State := (busByte s a, afterRead s a)

/-- One byte of the OAM DMA copy: a routed read with no tick, then a direct array write (R120). -/
def oamDmaByte (page : Byte) (s : State) (i : Nat) : State :=
  let src : Word := mkWord page 0 + BitVec.ofNat 16 i
  flatWrite (peekRead s src).2 (0xFE00 + BitVec.ofNat 16 i) (peekRead s src).1

/-- `OamDma(v)`: 160 bytes from page `v`, ascending (R120). -/
def oamDma (s : State) (v : Byte) : State := (List.range 160).foldl (oamDmaByte v) s

/-- `Periph.Write(addr, v)`: the audio peripheral takes the byte and no core state changes (R104). -/
def periphWrite (s : State) (_a : Word) (_v : Byte) : State := s

/-- A control write to the cartridge; an MBC3 latch uses up one draw of `RTC_NOW` (R102, R156). -/
def cartControl (s : State) (a : Word) (v : Byte) : State :=
  { s with
    cart := writeToRom s.cart a.toNat v (Config.rtcNow s.draws)
    draws := if latchesRtc s.cart a.toNat then s.draws + 1 else s.draws }

/-- `BusWrite(addr, v)`, routed in the order of R102.  It is also `PeekWrite` (R12). -/
def busWrite (s : State) (a : Word) (v : Byte) : State :=
  if a.toNat < 0x8000 then cartControl s a v
  else if 0xA000 ≤ a.toNat ∧ a.toNat < 0xC000 then
    { s with cart := writeExternal s.cart a.toNat v }
  else if Config.isAudio a.toNat then periphWrite s a v
  else if a = 0xFF46 then oamDma s v
  else flatWrite s a v

/-! ## Time -/

/-- The bytes the Peripherals change inside the `n`-th `Clock(4)` (R941). -/
def periphStores (n : Nat) (io : List Host.Cell) : List Host.Cell :=
  Config.periphAddrs.foldl
    (fun m a => match Config.periphStore n a with
      | none => m
      | some v => Memory.write Config.powerUp m a v) io

/-- `RequestInterrupt(k)` for every `k` in a set: IF bits set, none cleared (R913). -/
def requestInterrupts (v : Byte) (kinds : BitVec 5) : Byte := v ||| kinds.setWidth 8

/-- Deliver `Clock(4)` to the Peripherals, or not: their requests and stores are free values, and
nothing else may change (R940, R941). -/
def clockIf (delivered : Bool) (s : State) : State :=
  { s with
    clocks := if delivered then s.clocks + 1 else s.clocks
    iflag := if delivered then requestInterrupts s.iflag (Config.periphRequests s.clocks) else s.iflag
    io := if delivered then periphStores s.clocks s.io else s.io }

/-- One M-cycle with a bus access: `Clock(4)` first (R12, R111), 4 ticks (R13). -/
def accessCycle (s : State) : State := { clockIf true s with ticks := s.ticks + 4 }

/-- `Internal()`: one M-cycle without a bus access; it delivers `Clock(4)` under PER_MCYCLE only
(R12, R940). -/
def internal (s : State) : State :=
  { clockIf (Config.tickPolicy == .perMCycle) s with ticks := s.ticks + 4 }

/-- `MemRead(addr, 1)` (R12). -/
def memRead (s : State) (a : Word) : Byte × State := peekRead (accessCycle s) a

/-- `MemWrite(addr, 1, v)` (R12). -/
def memWrite (s : State) (a : Word) (v : Byte) : State := busWrite (accessCycle s) a v

/-! ## The stack (R53) -/

/-- Push one byte: SP falls by one, then the byte is written there. -/
def pushByte (s : State) (v : Byte) : State := memWrite { s with sp := s.sp - 1 } (s.sp - 1) v

/-- Push a 16-bit value, high byte first (R108). -/
def pushWord (s : State) (w : Word) : State := pushByte (pushByte s (hi8 w)) (lo8 w)

/-- Pop one byte: the byte at SP is read, then SP rises by one. -/
def popByte (s : State) : Byte × State :=
  ((memRead s s.sp).1, { (memRead s s.sp).2 with sp := s.sp + 1 })

/-- Pop a 16-bit value, low byte first (R108). -/
def popWord (s : State) : Word × State :=
  let lo := popByte s
  let hi := popByte lo.2
  (mkWord hi.1 lo.1, hi.2)

/-! ## The fatal fault -/

/-- `raise Fatal(kind, info)` (R900). -/
def raiseFatal (s : State) (r : Fault) : State := { s with fault := some r }

/-! ## The interrupt controller -/

/-- The interrupt to serve: the lowest bit set in both IE and IF, of bits 0 to 4 (R910, R924); none
exactly when `IE & IF & 0x1F` is zero. -/
def pendingSource (s : State) : Option (Fin 5) :=
  if s.ie.getLsbD 0 && s.iflag.getLsbD 0 then some 0
  else if s.ie.getLsbD 1 && s.iflag.getLsbD 1 then some 1
  else if s.ie.getLsbD 2 && s.iflag.getLsbD 2 then some 2
  else if s.ie.getLsbD 3 && s.iflag.getLsbD 3 then some 3
  else if s.ie.getLsbD 4 && s.iflag.getLsbD 4 then some 4
  else none

/-- The vector of source `k`, `0x40 + 8 * k` (R910). -/
def vector (k : Fin 5) : Word := BitVec.ofNat 16 (0x40 + 8 * k.val)

/-- `Dispatch(k)`, the interrupt entry: PC is saved on the stack, IME and the deferred enable and IF
bit `k` are cleared, PC is the vector; five M-cycles (R921). -/
def dispatch (s : State) (k : Fin 5) : State :=
  let s0 := { s with ime := false, eiPending := false }
  let s1 := internal (pushWord (internal (internal s0)) s.pc)
  { s1 with iflag := s1.iflag &&& ~~~(BitVec.ofNat 8 (2 ^ k.val)), pc := vector k }

/-- The deferred enable: IME becomes 1 if EI or RETI asked for it (R922). -/
def enablePending (s : State) : State :=
  { s with ime := s.ime || s.eiPending, eiPending := false }

/-- The wake from HALT: PC passes the HALT opcode (R927). -/
def wakeFromHalt (s : State) : State :=
  { s with halted := false, pc := if s.halted then s.pc + 1 else s.pc }

/-- The decision part of HandleInterrupts, after the stop check (R920). -/
def serviceInterrupts (s : State) : State :=
  match pendingSource s with
  | none => enablePending s
  | some k =>
    if s.ime then dispatch (wakeFromHalt s) k else enablePending (wakeFromHalt s)

/-- `HandleInterrupts()` (R920): nothing in the fault state (R900), nothing while stopped with IF bit 4
clear (R928). -/
def handleInterrupts (s : State) : State :=
  if s.fault.isSome then s
  else if s.stopped && !s.iflag.getLsbD 4 then s
  else serviceInterrupts { s with stopped := false }

/-- The return of RET and RETI: PC is popped, then one internal M-cycle (R709, R711). -/
def returnPop (s : State) : State :=
  { internal (popWord s).2 with pc := (popWord s).1 }

/-- The return from an interrupt: a return that schedules the deferred enable (R711, R925). -/
def returnFromInterrupt (s : State) : State := { returnPop s with eiPending := true }

/-- `IdleCycle()`, the step of a halted or stopped CPU: a ticking read at PC, its byte discarded
(R802). -/
def idleCycle (s : State) : State := (memRead s s.pc).2

end Sys2Proof.Machine
end

