-- ==== Sys2Proof/Machine/Operands.lean ====
section
/-! DEFINITION. Every operand form (R203 to R205, R340) and the shared shape of each instruction family:
the schedule of the family after its operand fetches.  A meaning in Machine/<Family>.lean is one of
these shapes at the instruction's operands. -/

namespace Sys2Proof.Machine

/-! ## Registers, pairs and conditions -/

/-- `x[r]` (R11, R203). -/
def r8 (s : State) : Reg8 → Byte
  | .b => s.b
  | .c => s.c
  | .d => s.d
  | .e => s.e
  | .h => s.h
  | .l => s.l
  | .a => s.a

/-- `x[r] <- v` (R11). -/
def setR8 (s : State) (r : Reg8) (v : Byte) : State :=
  match r with
  | .b => { s with b := v }
  | .c => { s with c := v }
  | .d => { s with d := v }
  | .e => { s with e := v }
  | .h => { s with h := v }
  | .l => { s with l := v }
  | .a => { s with a := v }

/-- The views BC, DE and HL (R52). -/
def regBC (s : State) : Word := mkWord s.b s.c
def regDE (s : State) : Word := mkWord s.d s.e
def regHL (s : State) : Word := mkWord s.h s.l

/-- The view AF (R52). -/
def regAF (s : State) : Word := mkWord s.a (flagsByte s.f)

/-- `x[HL] <- v`, both halves at once (R52). -/
def setHL (s : State) (v : Word) : State := { s with h := hi8 v, l := lo8 v }

/-- `x[rr]` for rr in BC, DE, HL, SP (R204). -/
def r16 (s : State) : Reg16 → Word
  | .bc => regBC s
  | .de => regDE s
  | .hl => regHL s
  | .sp => s.sp

/-- `x[rr] <- v` for rr in BC, DE, HL, SP (R52, R204). -/
def setR16 (s : State) (r : Reg16) (v : Word) : State :=
  match r with
  | .bc => { s with b := hi8 v, c := lo8 v }
  | .de => { s with d := hi8 v, e := lo8 v }
  | .hl => setHL s v
  | .sp => { s with sp := v }

/-- `x[rr]` for rr in BC, DE, HL, AF (R204). -/
def stk16 (s : State) : StkReg → Word
  | .bc => regBC s
  | .de => regDE s
  | .hl => regHL s
  | .af => regAF s

/-- `x[rr] <- v` for rr in BC, DE, HL, AF; AF drops the low nibble (R51, R52). -/
def setStk16 (s : State) (r : StkReg) (v : Word) : State :=
  match r with
  | .bc => { s with b := hi8 v, c := lo8 v }
  | .de => { s with d := hi8 v, e := lo8 v }
  | .hl => setHL s v
  | .af => { s with a := hi8 v, f := flagsOfByte (lo8 v) }

/-- `cond(cc)` (R205). -/
def cond (f : Flags) : Cond → Bool
  | .nz => !f.z
  | .z => f.z
  | .nc => !f.c
  | .c => f.c

/-! ## 8-bit loads -/

/-- LD r,r' (R300). -/
def loadRegReg (s : State) (dst src : Reg8) : State := setR8 s dst (r8 s src)

/-- A load of a register from an address: one MemRead (R302, R305, R306, R309, R311, R313). -/
def loadRegAt (s : State) (dst : Reg8) (addr : Word) : State :=
  setR8 (memRead s addr).2 dst (memRead s addr).1

/-- A store to an address: one MemWrite (R303, R304, R307, R308, R310, R312, R314). -/
def storeAt (s : State) (addr : Word) (v : Byte) : State := memWrite s addr v

/-- LD A,(HL+) and LD A,(HL-): the load, then HL moved by `step` (R315, R317). -/
def loadAStep (s : State) (step : Word) : State :=
  setHL (loadRegAt s .a (regHL s)) (regHL s + step)

/-- LD (HL+),A and LD (HL-),A: the store, then HL moved by `step` (R316, R318). -/
def storeAStep (s : State) (step : Word) : State :=
  setHL (storeAt s (regHL s) s.a) (regHL s + step)

/-! ## 16-bit loads and the stack -/

/-- LD (nn),SP: low byte, then high byte at the next address (R321). -/
def storeSP (s : State) (nn : Word) : State :=
  memWrite (memWrite s nn (lo8 s.sp)) (nn + 1) (hi8 s.sp)

/-- LD SP,HL: one internal M-cycle (R322). -/
def copyHLtoSP (s : State) : State := { internal s with sp := regHL s }

/-- PUSH rr: one internal M-cycle, then the two pushes (R330). -/
def pushPair (s : State) (r : StkReg) : State := pushWord (internal s) (stk16 s r)

/-- POP rr: two pops, then the pair is written (R331). -/
def popPair (s : State) (r : StkReg) : State := setStk16 (popWord s).2 r (popWord s).1

/-- LD HL,SP+e: one internal M-cycle (R332). -/
def loadHLOffset (s : State) (e : Byte) : State :=
  { setHL (internal s) (s.sp + sext16 e) with f := spOffsetFlags (lo8 s.sp) e }

/-! ## Arithmetic, logic, rotates and bits -/

/-- An 8-bit ALU operation of A with the byte `v` (R400 to R423). -/
def aluWith (s : State) (op : AluOp) (v : Byte) : State :=
  { s with a := aluA op s.a v s.f.c, f := aluFlags op s.a v s.f.c }

/-- The (HL) form: the operand is read first, one MemRead. -/
def aluMemHL (s : State) (op : AluOp) : State :=
  aluWith (memRead s (regHL s)).2 op (memRead s (regHL s)).1

/-- INC r (R424). -/
def incReg8 (s : State) (r : Reg8) : State :=
  { setR8 s r (r8 s r + 1) with f := incFlags s.f (r8 s r) }

/-- DEC r (R426). -/
def decReg8 (s : State) (r : Reg8) : State :=
  { setR8 s r (r8 s r - 1) with f := decFlags s.f (r8 s r) }

/-- Read the byte at HL and write back `g` of it, two bus accesses one M-cycle apart (R172). -/
def modifyHL (s : State) (g : Byte → Byte) : State :=
  memWrite (memRead s (regHL s)).2 (regHL s) (g (memRead s (regHL s)).1)

/-- INC (HL) (R425). -/
def incMemHL (s : State) : State :=
  { modifyHL s (fun v => v + 1) with f := incFlags s.f (memRead s (regHL s)).1 }

/-- DEC (HL) (R427). -/
def decMemHL (s : State) : State :=
  { modifyHL s (fun v => v - 1) with f := decFlags s.f (memRead s (regHL s)).1 }

/-- ADD HL,rr: one internal M-cycle (R500). -/
def addToHL (s : State) (r : Reg16) : State :=
  { setHL (internal s) (regHL s + r16 s r) with f := addHLFlags s.f (regHL s) (r16 s r) }

/-- INC rr and DEC rr: one internal M-cycle, the pair moved by `step` (R501, R502). -/
def stepPair (s : State) (r : Reg16) (step : Word) : State :=
  setR16 (internal s) r (r16 s r + step)

/-- ADD SP,e: two internal M-cycles (R503). -/
def addToSP (s : State) (e : Byte) : State :=
  { internal (internal s) with sp := s.sp + sext16 e, f := spOffsetFlags (lo8 s.sp) e }

/-- RLCA, RRCA, RLA and RRA (R600 to R603). -/
def rotateA (s : State) (op : RotOp) : State :=
  { s with a := (shift op s.a s.f.c).1, f := accRotFlags (shift op s.a s.f.c) }

/-- The register form of a CB rotate, shift or SWAP (R627). -/
def rotateReg (s : State) (op : RotOp) (r : Reg8) : State :=
  { setR8 s r (shift op (r8 s r) s.f.c).1 with f := shiftFlags (shift op (r8 s r) s.f.c) }

/-- The (HL) form of a CB rotate, shift or SWAP (R627). -/
def rotateMemHL (s : State) (op : RotOp) : State :=
  { modifyHL s (fun v => (shift op v s.f.c).1) with
    f := shiftFlags (shift op (memRead s (regHL s)).1 s.f.c) }

/-- BIT b,r (R620). -/
def bitTestReg (s : State) (b : Fin 8) (r : Reg8) : State := { s with f := bitFlags s.f (r8 s r) b }

/-- BIT b,(HL): read only (R621). -/
def bitTestMemHL (s : State) (b : Fin 8) : State :=
  { (memRead s (regHL s)).2 with f := bitFlags s.f (memRead s (regHL s)).1 b }

/-- RES b,r (R622). -/
def resReg (s : State) (b : Fin 8) (r : Reg8) : State := setR8 s r (resBit (r8 s r) b)

/-- RES b,(HL) (R623). -/
def resMemHL (s : State) (b : Fin 8) : State := modifyHL s (fun v => resBit v b)

/-- SET b,r (R624). -/
def setReg (s : State) (b : Fin 8) (r : Reg8) : State := setR8 s r (setBit (r8 s r) b)

/-- SET b,(HL) (R625). -/
def setMemHL (s : State) (b : Fin 8) : State := modifyHL s (fun v => setBit v b)

/-! ## Control transfer -/

/-- The jump of JP nn and a taken JP cc: one internal M-cycle (R702). -/
def jumpTo (s : State) (target : Word) : State := { internal s with pc := target }

/-- JP cc,nn: a false condition ends the instruction (R701, R703). -/
def jumpIf (s : State) (k : Cond) (target : Word) : State :=
  if cond s.f k then jumpTo s target else s

/-- JR e and a taken JR cc: relative to the next instruction (R705). -/
def jumpRel (s : State) (e : Byte) : State := jumpTo s (s.pc + sext16 e)

/-- JR cc,e (R706). -/
def jumpRelIf (s : State) (k : Cond) (e : Byte) : State :=
  if cond s.f k then jumpRel s e else s

/-- One internal M-cycle, PC pushed, then PC set: CALL nn and RST t (R707, R712). -/
def callTo (s : State) (target : Word) : State :=
  { pushWord (internal s) s.pc with pc := target }

/-- CALL cc,nn (R708). -/
def callIf (s : State) (k : Cond) (target : Word) : State :=
  if cond s.f k then callTo s target else s

/-- RET cc: one internal M-cycle in which the condition is evaluated, then the return if it holds
(R710). -/
def returnIf (s : State) (k : Cond) : State :=
  if cond s.f k then returnPop (internal s) else internal s

/-- The restart target `t = y * 8` (R208, R712). -/
def rstTarget (y : Fin 8) : Word := BitVec.ofNat 16 (8 * y.val)

/-! ## System -/

/-- HALT after its fetch: the halt bug when an enabled interrupt is pending with IME = 0, else the
halt with PC back on the HALT opcode (R801). -/
def haltCpu (s : State) : State :=
  if !s.ime && (pendingSource s).isSome then { s with haltBug := true }
  else { s with halted := true, pc := s.pc - 1 }

/-- The ILLEGAL descriptor of byte `op`: the fatal fault with the byte and its address (R807). -/
def illegalOpcode (s : State) (op : Byte) : State := raiseFatal s (.illegalOpcode op s.opAddr)

end Sys2Proof.Machine
end

