-- ==== Sys2Proof/Machine/Alu16.lean ====
section
/-! DEFINITION. The meanings of 16-bit arithmetic (42_alu16.md), one definition per row of the opcode table.
Each is the rest of its schedule after the fetch: PC is already past the instruction (R54). -/

namespace Sys2Proof.Machine

/-- INC BC (R501). -/
def exec_inc_bc (s : State) : Result := .next (stepPair s .bc 1)

/-- ADD HL,BC (R500). -/
def exec_add_hl_bc (s : State) : Result := .next (addToHL s .bc)

/-- DEC BC (R502). -/
def exec_dec_bc (s : State) : Result := .next (stepPair s .bc (-1))

/-- INC DE (R501). -/
def exec_inc_de (s : State) : Result := .next (stepPair s .de 1)

/-- ADD HL,DE (R500). -/
def exec_add_hl_de (s : State) : Result := .next (addToHL s .de)

/-- DEC DE (R502). -/
def exec_dec_de (s : State) : Result := .next (stepPair s .de (-1))

/-- INC HL (R501). -/
def exec_inc_hl (s : State) : Result := .next (stepPair s .hl 1)

/-- ADD HL,HL (R500). -/
def exec_add_hl_hl (s : State) : Result := .next (addToHL s .hl)

/-- DEC HL (R502). -/
def exec_dec_hl (s : State) : Result := .next (stepPair s .hl (-1))

/-- INC SP (R501). -/
def exec_inc_sp (s : State) : Result := .next (stepPair s .sp 1)

/-- ADD HL,SP (R500). -/
def exec_add_hl_sp (s : State) : Result := .next (addToHL s .sp)

/-- DEC SP (R502). -/
def exec_dec_sp (s : State) : Result := .next (stepPair s .sp (-1))

/-- ADD SP,r8 (R503). -/
def exec_add_sp_r8 (e : Byte) (s : State) : Result := .next (addToSP s e)

end Sys2Proof.Machine
end

