-- ==== Sys2Proof/Machine/Alu8.lean ====
section
/-! DEFINITION. The meanings of 8-bit arithmetic and logic (41_alu8.md), one definition per row of the opcode table.
Each is the rest of its schedule after the fetch: PC is already past the instruction (R54). -/

namespace Sys2Proof.Machine

/-- INC B (R424). -/
def exec_inc_b (s : State) : Result := .next (incReg8 s .b)

/-- DEC B (R426). -/
def exec_dec_b (s : State) : Result := .next (decReg8 s .b)

/-- INC C (R424). -/
def exec_inc_c (s : State) : Result := .next (incReg8 s .c)

/-- DEC C (R426). -/
def exec_dec_c (s : State) : Result := .next (decReg8 s .c)

/-- INC D (R424). -/
def exec_inc_d (s : State) : Result := .next (incReg8 s .d)

/-- DEC D (R426). -/
def exec_dec_d (s : State) : Result := .next (decReg8 s .d)

/-- INC E (R424). -/
def exec_inc_e (s : State) : Result := .next (incReg8 s .e)

/-- DEC E (R426). -/
def exec_dec_e (s : State) : Result := .next (decReg8 s .e)

/-- INC H (R424). -/
def exec_inc_h (s : State) : Result := .next (incReg8 s .h)

/-- DEC H (R426). -/
def exec_dec_h (s : State) : Result := .next (decReg8 s .h)

/-- DAA (R428). -/
def exec_daa (s : State) : Result :=
  .next { s with a := (daaCompute s.a s.f).1, f := (daaCompute s.a s.f).2 }

/-- INC L (R424). -/
def exec_inc_l (s : State) : Result := .next (incReg8 s .l)

/-- DEC L (R426). -/
def exec_dec_l (s : State) : Result := .next (decReg8 s .l)

/-- CPL (R429). -/
def exec_cpl (s : State) : Result := .next { s with a := s.a ^^^ 0xFF, f := cplFlags s.f }

/-- INC (HL) (R425). -/
def exec_inc_atHL (s : State) : Result := .next (incMemHL s)

/-- DEC (HL) (R427). -/
def exec_dec_atHL (s : State) : Result := .next (decMemHL s)

/-- SCF (R430). -/
def exec_scf (s : State) : Result := .next { s with f := scfFlags s.f }

/-- INC A (R424). -/
def exec_inc_a (s : State) : Result := .next (incReg8 s .a)

/-- DEC A (R426). -/
def exec_dec_a (s : State) : Result := .next (decReg8 s .a)

/-- CCF (R431). -/
def exec_ccf (s : State) : Result := .next { s with f := ccfFlags s.f }

/-- ADD A,B (R400). -/
def exec_add_a_b (s : State) : Result := .next (aluWith s .add (r8 s .b))

/-- ADD A,C (R400). -/
def exec_add_a_c (s : State) : Result := .next (aluWith s .add (r8 s .c))

/-- ADD A,D (R400). -/
def exec_add_a_d (s : State) : Result := .next (aluWith s .add (r8 s .d))

/-- ADD A,E (R400). -/
def exec_add_a_e (s : State) : Result := .next (aluWith s .add (r8 s .e))

/-- ADD A,H (R400). -/
def exec_add_a_h (s : State) : Result := .next (aluWith s .add (r8 s .h))

/-- ADD A,L (R400). -/
def exec_add_a_l (s : State) : Result := .next (aluWith s .add (r8 s .l))

/-- ADD A,(HL) (R401). -/
def exec_add_a_atHL (s : State) : Result := .next (aluMemHL s .add)

/-- ADD A,A (R400). -/
def exec_add_a_a (s : State) : Result := .next (aluWith s .add (r8 s .a))

/-- ADC A,B (R403). -/
def exec_adc_a_b (s : State) : Result := .next (aluWith s .adc (r8 s .b))

/-- ADC A,C (R403). -/
def exec_adc_a_c (s : State) : Result := .next (aluWith s .adc (r8 s .c))

/-- ADC A,D (R403). -/
def exec_adc_a_d (s : State) : Result := .next (aluWith s .adc (r8 s .d))

/-- ADC A,E (R403). -/
def exec_adc_a_e (s : State) : Result := .next (aluWith s .adc (r8 s .e))

/-- ADC A,H (R403). -/
def exec_adc_a_h (s : State) : Result := .next (aluWith s .adc (r8 s .h))

/-- ADC A,L (R403). -/
def exec_adc_a_l (s : State) : Result := .next (aluWith s .adc (r8 s .l))

/-- ADC A,(HL) (R404). -/
def exec_adc_a_atHL (s : State) : Result := .next (aluMemHL s .adc)

/-- ADC A,A (R403). -/
def exec_adc_a_a (s : State) : Result := .next (aluWith s .adc (r8 s .a))

/-- SUB B (R406). -/
def exec_sub_b (s : State) : Result := .next (aluWith s .sub (r8 s .b))

/-- SUB C (R406). -/
def exec_sub_c (s : State) : Result := .next (aluWith s .sub (r8 s .c))

/-- SUB D (R406). -/
def exec_sub_d (s : State) : Result := .next (aluWith s .sub (r8 s .d))

/-- SUB E (R406). -/
def exec_sub_e (s : State) : Result := .next (aluWith s .sub (r8 s .e))

/-- SUB H (R406). -/
def exec_sub_h (s : State) : Result := .next (aluWith s .sub (r8 s .h))

/-- SUB L (R406). -/
def exec_sub_l (s : State) : Result := .next (aluWith s .sub (r8 s .l))

/-- SUB (HL) (R407). -/
def exec_sub_atHL (s : State) : Result := .next (aluMemHL s .sub)

/-- SUB A (R406). -/
def exec_sub_a (s : State) : Result := .next (aluWith s .sub (r8 s .a))

/-- SBC A,B (R409). -/
def exec_sbc_a_b (s : State) : Result := .next (aluWith s .sbc (r8 s .b))

/-- SBC A,C (R409). -/
def exec_sbc_a_c (s : State) : Result := .next (aluWith s .sbc (r8 s .c))

/-- SBC A,D (R409). -/
def exec_sbc_a_d (s : State) : Result := .next (aluWith s .sbc (r8 s .d))

/-- SBC A,E (R409). -/
def exec_sbc_a_e (s : State) : Result := .next (aluWith s .sbc (r8 s .e))

/-- SBC A,H (R409). -/
def exec_sbc_a_h (s : State) : Result := .next (aluWith s .sbc (r8 s .h))

/-- SBC A,L (R409). -/
def exec_sbc_a_l (s : State) : Result := .next (aluWith s .sbc (r8 s .l))

/-- SBC A,(HL) (R410). -/
def exec_sbc_a_atHL (s : State) : Result := .next (aluMemHL s .sbc)

/-- SBC A,A (R409). -/
def exec_sbc_a_a (s : State) : Result := .next (aluWith s .sbc (r8 s .a))

/-- AND B (R412). -/
def exec_and_b (s : State) : Result := .next (aluWith s .and (r8 s .b))

/-- AND C (R412). -/
def exec_and_c (s : State) : Result := .next (aluWith s .and (r8 s .c))

/-- AND D (R412). -/
def exec_and_d (s : State) : Result := .next (aluWith s .and (r8 s .d))

/-- AND E (R412). -/
def exec_and_e (s : State) : Result := .next (aluWith s .and (r8 s .e))

/-- AND H (R412). -/
def exec_and_h (s : State) : Result := .next (aluWith s .and (r8 s .h))

/-- AND L (R412). -/
def exec_and_l (s : State) : Result := .next (aluWith s .and (r8 s .l))

/-- AND (HL) (R413). -/
def exec_and_atHL (s : State) : Result := .next (aluMemHL s .and)

/-- AND A (R412). -/
def exec_and_a (s : State) : Result := .next (aluWith s .and (r8 s .a))

/-- XOR B (R415). -/
def exec_xor_b (s : State) : Result := .next (aluWith s .xor (r8 s .b))

/-- XOR C (R415). -/
def exec_xor_c (s : State) : Result := .next (aluWith s .xor (r8 s .c))

/-- XOR D (R415). -/
def exec_xor_d (s : State) : Result := .next (aluWith s .xor (r8 s .d))

/-- XOR E (R415). -/
def exec_xor_e (s : State) : Result := .next (aluWith s .xor (r8 s .e))

/-- XOR H (R415). -/
def exec_xor_h (s : State) : Result := .next (aluWith s .xor (r8 s .h))

/-- XOR L (R415). -/
def exec_xor_l (s : State) : Result := .next (aluWith s .xor (r8 s .l))

/-- XOR (HL) (R416). -/
def exec_xor_atHL (s : State) : Result := .next (aluMemHL s .xor)

/-- XOR A (R415). -/
def exec_xor_a (s : State) : Result := .next (aluWith s .xor (r8 s .a))

/-- OR B (R418). -/
def exec_or_b (s : State) : Result := .next (aluWith s .or (r8 s .b))

/-- OR C (R418). -/
def exec_or_c (s : State) : Result := .next (aluWith s .or (r8 s .c))

/-- OR D (R418). -/
def exec_or_d (s : State) : Result := .next (aluWith s .or (r8 s .d))

/-- OR E (R418). -/
def exec_or_e (s : State) : Result := .next (aluWith s .or (r8 s .e))

/-- OR H (R418). -/
def exec_or_h (s : State) : Result := .next (aluWith s .or (r8 s .h))

/-- OR L (R418). -/
def exec_or_l (s : State) : Result := .next (aluWith s .or (r8 s .l))

/-- OR (HL) (R419). -/
def exec_or_atHL (s : State) : Result := .next (aluMemHL s .or)

/-- OR A (R418). -/
def exec_or_a (s : State) : Result := .next (aluWith s .or (r8 s .a))

/-- CP B (R421). -/
def exec_cp_b (s : State) : Result := .next (aluWith s .cp (r8 s .b))

/-- CP C (R421). -/
def exec_cp_c (s : State) : Result := .next (aluWith s .cp (r8 s .c))

/-- CP D (R421). -/
def exec_cp_d (s : State) : Result := .next (aluWith s .cp (r8 s .d))

/-- CP E (R421). -/
def exec_cp_e (s : State) : Result := .next (aluWith s .cp (r8 s .e))

/-- CP H (R421). -/
def exec_cp_h (s : State) : Result := .next (aluWith s .cp (r8 s .h))

/-- CP L (R421). -/
def exec_cp_l (s : State) : Result := .next (aluWith s .cp (r8 s .l))

/-- CP (HL) (R422). -/
def exec_cp_atHL (s : State) : Result := .next (aluMemHL s .cp)

/-- CP A (R421). -/
def exec_cp_a (s : State) : Result := .next (aluWith s .cp (r8 s .a))

/-- ADD A,d8 (R402). -/
def exec_add_a_d8 (n : Byte) (s : State) : Result := .next (aluWith s .add n)

/-- ADC A,d8 (R405). -/
def exec_adc_a_d8 (n : Byte) (s : State) : Result := .next (aluWith s .adc n)

/-- SUB d8 (R408). -/
def exec_sub_d8 (n : Byte) (s : State) : Result := .next (aluWith s .sub n)

/-- SBC A,d8 (R411). -/
def exec_sbc_a_d8 (n : Byte) (s : State) : Result := .next (aluWith s .sbc n)

/-- AND d8 (R414). -/
def exec_and_d8 (n : Byte) (s : State) : Result := .next (aluWith s .and n)

/-- XOR d8 (R417). -/
def exec_xor_d8 (n : Byte) (s : State) : Result := .next (aluWith s .xor n)

/-- OR d8 (R420). -/
def exec_or_d8 (n : Byte) (s : State) : Result := .next (aluWith s .or n)

/-- CP d8 (R423). -/
def exec_cp_d8 (n : Byte) (s : State) : Result := .next (aluWith s .cp n)

end Sys2Proof.Machine
end

