-- ==== Sys2Proof/Machine/Bit.lean ====
section
/-! DEFINITION. The meanings of BIT, RES and SET (43_rotate_bit.md section 4), one definition per row of the opcode table.
Each is the rest of its schedule after the fetch: PC is already past the instruction (R54). -/

namespace Sys2Proof.Machine

/-- BIT 0,B (R620). -/
def exec_bit_0_b (s : State) : Result := .next (bitTestReg s 0 .b)

/-- BIT 0,C (R620). -/
def exec_bit_0_c (s : State) : Result := .next (bitTestReg s 0 .c)

/-- BIT 0,D (R620). -/
def exec_bit_0_d (s : State) : Result := .next (bitTestReg s 0 .d)

/-- BIT 0,E (R620). -/
def exec_bit_0_e (s : State) : Result := .next (bitTestReg s 0 .e)

/-- BIT 0,H (R620). -/
def exec_bit_0_h (s : State) : Result := .next (bitTestReg s 0 .h)

/-- BIT 0,L (R620). -/
def exec_bit_0_l (s : State) : Result := .next (bitTestReg s 0 .l)

/-- BIT 0,(HL) (R621). -/
def exec_bit_0_atHL (s : State) : Result := .next (bitTestMemHL s 0)

/-- BIT 0,A (R620). -/
def exec_bit_0_a (s : State) : Result := .next (bitTestReg s 0 .a)

/-- BIT 1,B (R620). -/
def exec_bit_1_b (s : State) : Result := .next (bitTestReg s 1 .b)

/-- BIT 1,C (R620). -/
def exec_bit_1_c (s : State) : Result := .next (bitTestReg s 1 .c)

/-- BIT 1,D (R620). -/
def exec_bit_1_d (s : State) : Result := .next (bitTestReg s 1 .d)

/-- BIT 1,E (R620). -/
def exec_bit_1_e (s : State) : Result := .next (bitTestReg s 1 .e)

/-- BIT 1,H (R620). -/
def exec_bit_1_h (s : State) : Result := .next (bitTestReg s 1 .h)

/-- BIT 1,L (R620). -/
def exec_bit_1_l (s : State) : Result := .next (bitTestReg s 1 .l)

/-- BIT 1,(HL) (R621). -/
def exec_bit_1_atHL (s : State) : Result := .next (bitTestMemHL s 1)

/-- BIT 1,A (R620). -/
def exec_bit_1_a (s : State) : Result := .next (bitTestReg s 1 .a)

/-- BIT 2,B (R620). -/
def exec_bit_2_b (s : State) : Result := .next (bitTestReg s 2 .b)

/-- BIT 2,C (R620). -/
def exec_bit_2_c (s : State) : Result := .next (bitTestReg s 2 .c)

/-- BIT 2,D (R620). -/
def exec_bit_2_d (s : State) : Result := .next (bitTestReg s 2 .d)

/-- BIT 2,E (R620). -/
def exec_bit_2_e (s : State) : Result := .next (bitTestReg s 2 .e)

/-- BIT 2,H (R620). -/
def exec_bit_2_h (s : State) : Result := .next (bitTestReg s 2 .h)

/-- BIT 2,L (R620). -/
def exec_bit_2_l (s : State) : Result := .next (bitTestReg s 2 .l)

/-- BIT 2,(HL) (R621). -/
def exec_bit_2_atHL (s : State) : Result := .next (bitTestMemHL s 2)

/-- BIT 2,A (R620). -/
def exec_bit_2_a (s : State) : Result := .next (bitTestReg s 2 .a)

/-- BIT 3,B (R620). -/
def exec_bit_3_b (s : State) : Result := .next (bitTestReg s 3 .b)

/-- BIT 3,C (R620). -/
def exec_bit_3_c (s : State) : Result := .next (bitTestReg s 3 .c)

/-- BIT 3,D (R620). -/
def exec_bit_3_d (s : State) : Result := .next (bitTestReg s 3 .d)

/-- BIT 3,E (R620). -/
def exec_bit_3_e (s : State) : Result := .next (bitTestReg s 3 .e)

/-- BIT 3,H (R620). -/
def exec_bit_3_h (s : State) : Result := .next (bitTestReg s 3 .h)

/-- BIT 3,L (R620). -/
def exec_bit_3_l (s : State) : Result := .next (bitTestReg s 3 .l)

/-- BIT 3,(HL) (R621). -/
def exec_bit_3_atHL (s : State) : Result := .next (bitTestMemHL s 3)

/-- BIT 3,A (R620). -/
def exec_bit_3_a (s : State) : Result := .next (bitTestReg s 3 .a)

/-- BIT 4,B (R620). -/
def exec_bit_4_b (s : State) : Result := .next (bitTestReg s 4 .b)

/-- BIT 4,C (R620). -/
def exec_bit_4_c (s : State) : Result := .next (bitTestReg s 4 .c)

/-- BIT 4,D (R620). -/
def exec_bit_4_d (s : State) : Result := .next (bitTestReg s 4 .d)

/-- BIT 4,E (R620). -/
def exec_bit_4_e (s : State) : Result := .next (bitTestReg s 4 .e)

/-- BIT 4,H (R620). -/
def exec_bit_4_h (s : State) : Result := .next (bitTestReg s 4 .h)

/-- BIT 4,L (R620). -/
def exec_bit_4_l (s : State) : Result := .next (bitTestReg s 4 .l)

/-- BIT 4,(HL) (R621). -/
def exec_bit_4_atHL (s : State) : Result := .next (bitTestMemHL s 4)

/-- BIT 4,A (R620). -/
def exec_bit_4_a (s : State) : Result := .next (bitTestReg s 4 .a)

/-- BIT 5,B (R620). -/
def exec_bit_5_b (s : State) : Result := .next (bitTestReg s 5 .b)

/-- BIT 5,C (R620). -/
def exec_bit_5_c (s : State) : Result := .next (bitTestReg s 5 .c)

/-- BIT 5,D (R620). -/
def exec_bit_5_d (s : State) : Result := .next (bitTestReg s 5 .d)

/-- BIT 5,E (R620). -/
def exec_bit_5_e (s : State) : Result := .next (bitTestReg s 5 .e)

/-- BIT 5,H (R620). -/
def exec_bit_5_h (s : State) : Result := .next (bitTestReg s 5 .h)

/-- BIT 5,L (R620). -/
def exec_bit_5_l (s : State) : Result := .next (bitTestReg s 5 .l)

/-- BIT 5,(HL) (R621). -/
def exec_bit_5_atHL (s : State) : Result := .next (bitTestMemHL s 5)

/-- BIT 5,A (R620). -/
def exec_bit_5_a (s : State) : Result := .next (bitTestReg s 5 .a)

/-- BIT 6,B (R620). -/
def exec_bit_6_b (s : State) : Result := .next (bitTestReg s 6 .b)

/-- BIT 6,C (R620). -/
def exec_bit_6_c (s : State) : Result := .next (bitTestReg s 6 .c)

/-- BIT 6,D (R620). -/
def exec_bit_6_d (s : State) : Result := .next (bitTestReg s 6 .d)

/-- BIT 6,E (R620). -/
def exec_bit_6_e (s : State) : Result := .next (bitTestReg s 6 .e)

/-- BIT 6,H (R620). -/
def exec_bit_6_h (s : State) : Result := .next (bitTestReg s 6 .h)

/-- BIT 6,L (R620). -/
def exec_bit_6_l (s : State) : Result := .next (bitTestReg s 6 .l)

/-- BIT 6,(HL) (R621). -/
def exec_bit_6_atHL (s : State) : Result := .next (bitTestMemHL s 6)

/-- BIT 6,A (R620). -/
def exec_bit_6_a (s : State) : Result := .next (bitTestReg s 6 .a)

/-- BIT 7,B (R620). -/
def exec_bit_7_b (s : State) : Result := .next (bitTestReg s 7 .b)

/-- BIT 7,C (R620). -/
def exec_bit_7_c (s : State) : Result := .next (bitTestReg s 7 .c)

/-- BIT 7,D (R620). -/
def exec_bit_7_d (s : State) : Result := .next (bitTestReg s 7 .d)

/-- BIT 7,E (R620). -/
def exec_bit_7_e (s : State) : Result := .next (bitTestReg s 7 .e)

/-- BIT 7,H (R620). -/
def exec_bit_7_h (s : State) : Result := .next (bitTestReg s 7 .h)

/-- BIT 7,L (R620). -/
def exec_bit_7_l (s : State) : Result := .next (bitTestReg s 7 .l)

/-- BIT 7,(HL) (R621). -/
def exec_bit_7_atHL (s : State) : Result := .next (bitTestMemHL s 7)

/-- BIT 7,A (R620). -/
def exec_bit_7_a (s : State) : Result := .next (bitTestReg s 7 .a)

/-- RES 0,B (R622). -/
def exec_res_0_b (s : State) : Result := .next (resReg s 0 .b)

/-- RES 0,C (R622). -/
def exec_res_0_c (s : State) : Result := .next (resReg s 0 .c)

/-- RES 0,D (R622). -/
def exec_res_0_d (s : State) : Result := .next (resReg s 0 .d)

/-- RES 0,E (R622). -/
def exec_res_0_e (s : State) : Result := .next (resReg s 0 .e)

/-- RES 0,H (R622). -/
def exec_res_0_h (s : State) : Result := .next (resReg s 0 .h)

/-- RES 0,L (R622). -/
def exec_res_0_l (s : State) : Result := .next (resReg s 0 .l)

/-- RES 0,(HL) (R623). -/
def exec_res_0_atHL (s : State) : Result := .next (resMemHL s 0)

/-- RES 0,A (R622). -/
def exec_res_0_a (s : State) : Result := .next (resReg s 0 .a)

/-- RES 1,B (R622). -/
def exec_res_1_b (s : State) : Result := .next (resReg s 1 .b)

/-- RES 1,C (R622). -/
def exec_res_1_c (s : State) : Result := .next (resReg s 1 .c)

/-- RES 1,D (R622). -/
def exec_res_1_d (s : State) : Result := .next (resReg s 1 .d)

/-- RES 1,E (R622). -/
def exec_res_1_e (s : State) : Result := .next (resReg s 1 .e)

/-- RES 1,H (R622). -/
def exec_res_1_h (s : State) : Result := .next (resReg s 1 .h)

/-- RES 1,L (R622). -/
def exec_res_1_l (s : State) : Result := .next (resReg s 1 .l)

/-- RES 1,(HL) (R623). -/
def exec_res_1_atHL (s : State) : Result := .next (resMemHL s 1)

/-- RES 1,A (R622). -/
def exec_res_1_a (s : State) : Result := .next (resReg s 1 .a)

/-- RES 2,B (R622). -/
def exec_res_2_b (s : State) : Result := .next (resReg s 2 .b)

/-- RES 2,C (R622). -/
def exec_res_2_c (s : State) : Result := .next (resReg s 2 .c)

/-- RES 2,D (R622). -/
def exec_res_2_d (s : State) : Result := .next (resReg s 2 .d)

/-- RES 2,E (R622). -/
def exec_res_2_e (s : State) : Result := .next (resReg s 2 .e)

/-- RES 2,H (R622). -/
def exec_res_2_h (s : State) : Result := .next (resReg s 2 .h)

/-- RES 2,L (R622). -/
def exec_res_2_l (s : State) : Result := .next (resReg s 2 .l)

/-- RES 2,(HL) (R623). -/
def exec_res_2_atHL (s : State) : Result := .next (resMemHL s 2)

/-- RES 2,A (R622). -/
def exec_res_2_a (s : State) : Result := .next (resReg s 2 .a)

/-- RES 3,B (R622). -/
def exec_res_3_b (s : State) : Result := .next (resReg s 3 .b)

/-- RES 3,C (R622). -/
def exec_res_3_c (s : State) : Result := .next (resReg s 3 .c)

/-- RES 3,D (R622). -/
def exec_res_3_d (s : State) : Result := .next (resReg s 3 .d)

/-- RES 3,E (R622). -/
def exec_res_3_e (s : State) : Result := .next (resReg s 3 .e)

/-- RES 3,H (R622). -/
def exec_res_3_h (s : State) : Result := .next (resReg s 3 .h)

/-- RES 3,L (R622). -/
def exec_res_3_l (s : State) : Result := .next (resReg s 3 .l)

/-- RES 3,(HL) (R623). -/
def exec_res_3_atHL (s : State) : Result := .next (resMemHL s 3)

/-- RES 3,A (R622). -/
def exec_res_3_a (s : State) : Result := .next (resReg s 3 .a)

/-- RES 4,B (R622). -/
def exec_res_4_b (s : State) : Result := .next (resReg s 4 .b)

/-- RES 4,C (R622). -/
def exec_res_4_c (s : State) : Result := .next (resReg s 4 .c)

/-- RES 4,D (R622). -/
def exec_res_4_d (s : State) : Result := .next (resReg s 4 .d)

/-- RES 4,E (R622). -/
def exec_res_4_e (s : State) : Result := .next (resReg s 4 .e)

/-- RES 4,H (R622). -/
def exec_res_4_h (s : State) : Result := .next (resReg s 4 .h)

/-- RES 4,L (R622). -/
def exec_res_4_l (s : State) : Result := .next (resReg s 4 .l)

/-- RES 4,(HL) (R623). -/
def exec_res_4_atHL (s : State) : Result := .next (resMemHL s 4)

/-- RES 4,A (R622). -/
def exec_res_4_a (s : State) : Result := .next (resReg s 4 .a)

/-- RES 5,B (R622). -/
def exec_res_5_b (s : State) : Result := .next (resReg s 5 .b)

/-- RES 5,C (R622). -/
def exec_res_5_c (s : State) : Result := .next (resReg s 5 .c)

/-- RES 5,D (R622). -/
def exec_res_5_d (s : State) : Result := .next (resReg s 5 .d)

/-- RES 5,E (R622). -/
def exec_res_5_e (s : State) : Result := .next (resReg s 5 .e)

/-- RES 5,H (R622). -/
def exec_res_5_h (s : State) : Result := .next (resReg s 5 .h)

/-- RES 5,L (R622). -/
def exec_res_5_l (s : State) : Result := .next (resReg s 5 .l)

/-- RES 5,(HL) (R623). -/
def exec_res_5_atHL (s : State) : Result := .next (resMemHL s 5)

/-- RES 5,A (R622). -/
def exec_res_5_a (s : State) : Result := .next (resReg s 5 .a)

/-- RES 6,B (R622). -/
def exec_res_6_b (s : State) : Result := .next (resReg s 6 .b)

/-- RES 6,C (R622). -/
def exec_res_6_c (s : State) : Result := .next (resReg s 6 .c)

/-- RES 6,D (R622). -/
def exec_res_6_d (s : State) : Result := .next (resReg s 6 .d)

/-- RES 6,E (R622). -/
def exec_res_6_e (s : State) : Result := .next (resReg s 6 .e)

/-- RES 6,H (R622). -/
def exec_res_6_h (s : State) : Result := .next (resReg s 6 .h)

/-- RES 6,L (R622). -/
def exec_res_6_l (s : State) : Result := .next (resReg s 6 .l)

/-- RES 6,(HL) (R623). -/
def exec_res_6_atHL (s : State) : Result := .next (resMemHL s 6)

/-- RES 6,A (R622). -/
def exec_res_6_a (s : State) : Result := .next (resReg s 6 .a)

/-- RES 7,B (R622). -/
def exec_res_7_b (s : State) : Result := .next (resReg s 7 .b)

/-- RES 7,C (R622). -/
def exec_res_7_c (s : State) : Result := .next (resReg s 7 .c)

/-- RES 7,D (R622). -/
def exec_res_7_d (s : State) : Result := .next (resReg s 7 .d)

/-- RES 7,E (R622). -/
def exec_res_7_e (s : State) : Result := .next (resReg s 7 .e)

/-- RES 7,H (R622). -/
def exec_res_7_h (s : State) : Result := .next (resReg s 7 .h)

/-- RES 7,L (R622). -/
def exec_res_7_l (s : State) : Result := .next (resReg s 7 .l)

/-- RES 7,(HL) (R623). -/
def exec_res_7_atHL (s : State) : Result := .next (resMemHL s 7)

/-- RES 7,A (R622). -/
def exec_res_7_a (s : State) : Result := .next (resReg s 7 .a)

/-- SET 0,B (R624). -/
def exec_set_0_b (s : State) : Result := .next (setReg s 0 .b)

/-- SET 0,C (R624). -/
def exec_set_0_c (s : State) : Result := .next (setReg s 0 .c)

/-- SET 0,D (R624). -/
def exec_set_0_d (s : State) : Result := .next (setReg s 0 .d)

/-- SET 0,E (R624). -/
def exec_set_0_e (s : State) : Result := .next (setReg s 0 .e)

/-- SET 0,H (R624). -/
def exec_set_0_h (s : State) : Result := .next (setReg s 0 .h)

/-- SET 0,L (R624). -/
def exec_set_0_l (s : State) : Result := .next (setReg s 0 .l)

/-- SET 0,(HL) (R625). -/
def exec_set_0_atHL (s : State) : Result := .next (setMemHL s 0)

/-- SET 0,A (R624). -/
def exec_set_0_a (s : State) : Result := .next (setReg s 0 .a)

/-- SET 1,B (R624). -/
def exec_set_1_b (s : State) : Result := .next (setReg s 1 .b)

/-- SET 1,C (R624). -/
def exec_set_1_c (s : State) : Result := .next (setReg s 1 .c)

/-- SET 1,D (R624). -/
def exec_set_1_d (s : State) : Result := .next (setReg s 1 .d)

/-- SET 1,E (R624). -/
def exec_set_1_e (s : State) : Result := .next (setReg s 1 .e)

/-- SET 1,H (R624). -/
def exec_set_1_h (s : State) : Result := .next (setReg s 1 .h)

/-- SET 1,L (R624). -/
def exec_set_1_l (s : State) : Result := .next (setReg s 1 .l)

/-- SET 1,(HL) (R625). -/
def exec_set_1_atHL (s : State) : Result := .next (setMemHL s 1)

/-- SET 1,A (R624). -/
def exec_set_1_a (s : State) : Result := .next (setReg s 1 .a)

/-- SET 2,B (R624). -/
def exec_set_2_b (s : State) : Result := .next (setReg s 2 .b)

/-- SET 2,C (R624). -/
def exec_set_2_c (s : State) : Result := .next (setReg s 2 .c)

/-- SET 2,D (R624). -/
def exec_set_2_d (s : State) : Result := .next (setReg s 2 .d)

/-- SET 2,E (R624). -/
def exec_set_2_e (s : State) : Result := .next (setReg s 2 .e)

/-- SET 2,H (R624). -/
def exec_set_2_h (s : State) : Result := .next (setReg s 2 .h)

/-- SET 2,L (R624). -/
def exec_set_2_l (s : State) : Result := .next (setReg s 2 .l)

/-- SET 2,(HL) (R625). -/
def exec_set_2_atHL (s : State) : Result := .next (setMemHL s 2)

/-- SET 2,A (R624). -/
def exec_set_2_a (s : State) : Result := .next (setReg s 2 .a)

/-- SET 3,B (R624). -/
def exec_set_3_b (s : State) : Result := .next (setReg s 3 .b)

/-- SET 3,C (R624). -/
def exec_set_3_c (s : State) : Result := .next (setReg s 3 .c)

/-- SET 3,D (R624). -/
def exec_set_3_d (s : State) : Result := .next (setReg s 3 .d)

/-- SET 3,E (R624). -/
def exec_set_3_e (s : State) : Result := .next (setReg s 3 .e)

/-- SET 3,H (R624). -/
def exec_set_3_h (s : State) : Result := .next (setReg s 3 .h)

/-- SET 3,L (R624). -/
def exec_set_3_l (s : State) : Result := .next (setReg s 3 .l)

/-- SET 3,(HL) (R625). -/
def exec_set_3_atHL (s : State) : Result := .next (setMemHL s 3)

/-- SET 3,A (R624). -/
def exec_set_3_a (s : State) : Result := .next (setReg s 3 .a)

/-- SET 4,B (R624). -/
def exec_set_4_b (s : State) : Result := .next (setReg s 4 .b)

/-- SET 4,C (R624). -/
def exec_set_4_c (s : State) : Result := .next (setReg s 4 .c)

/-- SET 4,D (R624). -/
def exec_set_4_d (s : State) : Result := .next (setReg s 4 .d)

/-- SET 4,E (R624). -/
def exec_set_4_e (s : State) : Result := .next (setReg s 4 .e)

/-- SET 4,H (R624). -/
def exec_set_4_h (s : State) : Result := .next (setReg s 4 .h)

/-- SET 4,L (R624). -/
def exec_set_4_l (s : State) : Result := .next (setReg s 4 .l)

/-- SET 4,(HL) (R625). -/
def exec_set_4_atHL (s : State) : Result := .next (setMemHL s 4)

/-- SET 4,A (R624). -/
def exec_set_4_a (s : State) : Result := .next (setReg s 4 .a)

/-- SET 5,B (R624). -/
def exec_set_5_b (s : State) : Result := .next (setReg s 5 .b)

/-- SET 5,C (R624). -/
def exec_set_5_c (s : State) : Result := .next (setReg s 5 .c)

/-- SET 5,D (R624). -/
def exec_set_5_d (s : State) : Result := .next (setReg s 5 .d)

/-- SET 5,E (R624). -/
def exec_set_5_e (s : State) : Result := .next (setReg s 5 .e)

/-- SET 5,H (R624). -/
def exec_set_5_h (s : State) : Result := .next (setReg s 5 .h)

/-- SET 5,L (R624). -/
def exec_set_5_l (s : State) : Result := .next (setReg s 5 .l)

/-- SET 5,(HL) (R625). -/
def exec_set_5_atHL (s : State) : Result := .next (setMemHL s 5)

/-- SET 5,A (R624). -/
def exec_set_5_a (s : State) : Result := .next (setReg s 5 .a)

/-- SET 6,B (R624). -/
def exec_set_6_b (s : State) : Result := .next (setReg s 6 .b)

/-- SET 6,C (R624). -/
def exec_set_6_c (s : State) : Result := .next (setReg s 6 .c)

/-- SET 6,D (R624). -/
def exec_set_6_d (s : State) : Result := .next (setReg s 6 .d)

/-- SET 6,E (R624). -/
def exec_set_6_e (s : State) : Result := .next (setReg s 6 .e)

/-- SET 6,H (R624). -/
def exec_set_6_h (s : State) : Result := .next (setReg s 6 .h)

/-- SET 6,L (R624). -/
def exec_set_6_l (s : State) : Result := .next (setReg s 6 .l)

/-- SET 6,(HL) (R625). -/
def exec_set_6_atHL (s : State) : Result := .next (setMemHL s 6)

/-- SET 6,A (R624). -/
def exec_set_6_a (s : State) : Result := .next (setReg s 6 .a)

/-- SET 7,B (R624). -/
def exec_set_7_b (s : State) : Result := .next (setReg s 7 .b)

/-- SET 7,C (R624). -/
def exec_set_7_c (s : State) : Result := .next (setReg s 7 .c)

/-- SET 7,D (R624). -/
def exec_set_7_d (s : State) : Result := .next (setReg s 7 .d)

/-- SET 7,E (R624). -/
def exec_set_7_e (s : State) : Result := .next (setReg s 7 .e)

/-- SET 7,H (R624). -/
def exec_set_7_h (s : State) : Result := .next (setReg s 7 .h)

/-- SET 7,L (R624). -/
def exec_set_7_l (s : State) : Result := .next (setReg s 7 .l)

/-- SET 7,(HL) (R625). -/
def exec_set_7_atHL (s : State) : Result := .next (setMemHL s 7)

/-- SET 7,A (R624). -/
def exec_set_7_a (s : State) : Result := .next (setReg s 7 .a)

end Sys2Proof.Machine
end

