-- ==== Sys2Proof/Machine/Control.lean ====
section
/-! DEFINITION. The meanings of jumps, calls, returns and restarts (44_control.md), one definition per row of the opcode table.
Each is the rest of its schedule after the fetch: PC is already past the instruction (R54). -/

namespace Sys2Proof.Machine

/-- JR r8 (R705). -/
def exec_jr_r8 (e : Byte) (s : State) : Result := .next (jumpRel s e)

/-- JR NZ,r8 (R706). -/
def exec_jr_nz_r8 (e : Byte) (s : State) : Result := .next (jumpRelIf s .nz e)

/-- JR Z,r8 (R706). -/
def exec_jr_z_r8 (e : Byte) (s : State) : Result := .next (jumpRelIf s .z e)

/-- JR NC,r8 (R706). -/
def exec_jr_nc_r8 (e : Byte) (s : State) : Result := .next (jumpRelIf s .nc e)

/-- JR C,r8 (R706). -/
def exec_jr_c_r8 (e : Byte) (s : State) : Result := .next (jumpRelIf s .c e)

/-- RET NZ (R710). -/
def exec_ret_nz (s : State) : Result := .next (returnIf s .nz)

/-- JP NZ,a16 (R703). -/
def exec_jp_nz_a16 (nn : Word) (s : State) : Result := .next (jumpIf s .nz nn)

/-- JP a16 (R702). -/
def exec_jp_a16 (nn : Word) (s : State) : Result := .next (jumpTo s nn)

/-- CALL NZ,a16 (R708). -/
def exec_call_nz_a16 (nn : Word) (s : State) : Result := .next (callIf s .nz nn)

/-- RST 00H (R712). -/
def exec_rst_00 (s : State) : Result := .next (callTo s (rstTarget 0))

/-- RET Z (R710). -/
def exec_ret_z (s : State) : Result := .next (returnIf s .z)

/-- RET (R709). -/
def exec_ret (s : State) : Result := .next (returnPop s)

/-- JP Z,a16 (R703). -/
def exec_jp_z_a16 (nn : Word) (s : State) : Result := .next (jumpIf s .z nn)

/-- CALL Z,a16 (R708). -/
def exec_call_z_a16 (nn : Word) (s : State) : Result := .next (callIf s .z nn)

/-- CALL a16 (R707). -/
def exec_call_a16 (nn : Word) (s : State) : Result := .next (callTo s nn)

/-- RST 08H (R712). -/
def exec_rst_08 (s : State) : Result := .next (callTo s (rstTarget 1))

/-- RET NC (R710). -/
def exec_ret_nc (s : State) : Result := .next (returnIf s .nc)

/-- JP NC,a16 (R703). -/
def exec_jp_nc_a16 (nn : Word) (s : State) : Result := .next (jumpIf s .nc nn)

/-- CALL NC,a16 (R708). -/
def exec_call_nc_a16 (nn : Word) (s : State) : Result := .next (callIf s .nc nn)

/-- RST 10H (R712). -/
def exec_rst_10 (s : State) : Result := .next (callTo s (rstTarget 2))

/-- RET C (R710). -/
def exec_ret_c (s : State) : Result := .next (returnIf s .c)

/-- RETI (R711). -/
def exec_reti (s : State) : Result := .next (returnFromInterrupt s)

/-- JP C,a16 (R703). -/
def exec_jp_c_a16 (nn : Word) (s : State) : Result := .next (jumpIf s .c nn)

/-- CALL C,a16 (R708). -/
def exec_call_c_a16 (nn : Word) (s : State) : Result := .next (callIf s .c nn)

/-- RST 18H (R712). -/
def exec_rst_18 (s : State) : Result := .next (callTo s (rstTarget 3))

/-- RST 20H (R712). -/
def exec_rst_20 (s : State) : Result := .next (callTo s (rstTarget 4))

/-- JP HL (R704). -/
def exec_jp_hl (s : State) : Result := .next { s with pc := regHL s }

/-- RST 28H (R712). -/
def exec_rst_28 (s : State) : Result := .next (callTo s (rstTarget 5))

/-- RST 30H (R712). -/
def exec_rst_30 (s : State) : Result := .next (callTo s (rstTarget 6))

/-- RST 38H (R712). -/
def exec_rst_38 (s : State) : Result := .next (callTo s (rstTarget 7))

end Sys2Proof.Machine
end

