-- ==== Sys2Proof/Machine/Load16.lean ====
section
/-! DEFINITION. The meanings of the 16-bit loads and the stack transfers (40_loads.md sections 3 and 4), one definition per row of the opcode table.
Each is the rest of its schedule after the fetch: PC is already past the instruction (R54). -/

namespace Sys2Proof.Machine

/-- LD BC,d16 (R320). -/
def exec_ld_bc_d16 (nn : Word) (s : State) : Result := .next (setR16 s .bc nn)

/-- LD (a16),SP (R321). -/
def exec_ld_at16_sp (nn : Word) (s : State) : Result := .next (storeSP s nn)

/-- LD DE,d16 (R320). -/
def exec_ld_de_d16 (nn : Word) (s : State) : Result := .next (setR16 s .de nn)

/-- LD HL,d16 (R320). -/
def exec_ld_hl_d16 (nn : Word) (s : State) : Result := .next (setR16 s .hl nn)

/-- LD SP,d16 (R320). -/
def exec_ld_sp_d16 (nn : Word) (s : State) : Result := .next (setR16 s .sp nn)

/-- POP BC (R331). -/
def exec_pop_bc (s : State) : Result := .next (popPair s .bc)

/-- PUSH BC (R330). -/
def exec_push_bc (s : State) : Result := .next (pushPair s .bc)

/-- POP DE (R331). -/
def exec_pop_de (s : State) : Result := .next (popPair s .de)

/-- PUSH DE (R330). -/
def exec_push_de (s : State) : Result := .next (pushPair s .de)

/-- POP HL (R331). -/
def exec_pop_hl (s : State) : Result := .next (popPair s .hl)

/-- PUSH HL (R330). -/
def exec_push_hl (s : State) : Result := .next (pushPair s .hl)

/-- POP AF (R331). -/
def exec_pop_af (s : State) : Result := .next (popPair s .af)

/-- PUSH AF (R330). -/
def exec_push_af (s : State) : Result := .next (pushPair s .af)

/-- LD HL,SP+r8 (R332). -/
def exec_ld_hl_sp_r8 (e : Byte) (s : State) : Result := .next (loadHLOffset s e)

/-- LD SP,HL (R322). -/
def exec_ld_sp_hl (s : State) : Result := .next (copyHLtoSP s)

end Sys2Proof.Machine
end

