-- ==== Sys2Proof/Machine/Load8.lean ====
section
/-! DEFINITION. The meanings of the 8-bit loads and stores (40_loads.md section 2), one definition per row of the opcode table.
Each is the rest of its schedule after the fetch: PC is already past the instruction (R54). -/

namespace Sys2Proof.Machine

/-- LD (BC),A (R307). -/
def exec_ld_atBC_a (s : State) : Result := .next (storeAt s (regBC s) s.a)

/-- LD B,d8 (R301). -/
def exec_ld_b_d8 (n : Byte) (s : State) : Result := .next (setR8 s .b n)

/-- LD A,(BC) (R305). -/
def exec_ld_a_atBC (s : State) : Result := .next (loadRegAt s .a (regBC s))

/-- LD C,d8 (R301). -/
def exec_ld_c_d8 (n : Byte) (s : State) : Result := .next (setR8 s .c n)

/-- LD (DE),A (R308). -/
def exec_ld_atDE_a (s : State) : Result := .next (storeAt s (regDE s) s.a)

/-- LD D,d8 (R301). -/
def exec_ld_d_d8 (n : Byte) (s : State) : Result := .next (setR8 s .d n)

/-- LD A,(DE) (R306). -/
def exec_ld_a_atDE (s : State) : Result := .next (loadRegAt s .a (regDE s))

/-- LD E,d8 (R301). -/
def exec_ld_e_d8 (n : Byte) (s : State) : Result := .next (setR8 s .e n)

/-- LD (HL+),A (R318). -/
def exec_ld_atHLI_a (s : State) : Result := .next (storeAStep s 1)

/-- LD H,d8 (R301). -/
def exec_ld_h_d8 (n : Byte) (s : State) : Result := .next (setR8 s .h n)

/-- LD A,(HL+) (R317). -/
def exec_ld_a_atHLI (s : State) : Result := .next (loadAStep s 1)

/-- LD L,d8 (R301). -/
def exec_ld_l_d8 (n : Byte) (s : State) : Result := .next (setR8 s .l n)

/-- LD (HL-),A (R316). -/
def exec_ld_atHLD_a (s : State) : Result := .next (storeAStep s (-1))

/-- LD (HL),d8 (R304). -/
def exec_ld_atHL_d8 (n : Byte) (s : State) : Result := .next (storeAt s (regHL s) n)

/-- LD A,(HL-) (R315). -/
def exec_ld_a_atHLD (s : State) : Result := .next (loadAStep s (-1))

/-- LD A,d8 (R301). -/
def exec_ld_a_d8 (n : Byte) (s : State) : Result := .next (setR8 s .a n)

/-- LD B,B (R300). -/
def exec_ld_b_b (s : State) : Result := .next (loadRegReg s .b .b)

/-- LD B,C (R300). -/
def exec_ld_b_c (s : State) : Result := .next (loadRegReg s .b .c)

/-- LD B,D (R300). -/
def exec_ld_b_d (s : State) : Result := .next (loadRegReg s .b .d)

/-- LD B,E (R300). -/
def exec_ld_b_e (s : State) : Result := .next (loadRegReg s .b .e)

/-- LD B,H (R300). -/
def exec_ld_b_h (s : State) : Result := .next (loadRegReg s .b .h)

/-- LD B,L (R300). -/
def exec_ld_b_l (s : State) : Result := .next (loadRegReg s .b .l)

/-- LD B,(HL) (R302). -/
def exec_ld_b_atHL (s : State) : Result := .next (loadRegAt s .b (regHL s))

/-- LD B,A (R300). -/
def exec_ld_b_a (s : State) : Result := .next (loadRegReg s .b .a)

/-- LD C,B (R300). -/
def exec_ld_c_b (s : State) : Result := .next (loadRegReg s .c .b)

/-- LD C,C (R300). -/
def exec_ld_c_c (s : State) : Result := .next (loadRegReg s .c .c)

/-- LD C,D (R300). -/
def exec_ld_c_d (s : State) : Result := .next (loadRegReg s .c .d)

/-- LD C,E (R300). -/
def exec_ld_c_e (s : State) : Result := .next (loadRegReg s .c .e)

/-- LD C,H (R300). -/
def exec_ld_c_h (s : State) : Result := .next (loadRegReg s .c .h)

/-- LD C,L (R300). -/
def exec_ld_c_l (s : State) : Result := .next (loadRegReg s .c .l)

/-- LD C,(HL) (R302). -/
def exec_ld_c_atHL (s : State) : Result := .next (loadRegAt s .c (regHL s))

/-- LD C,A (R300). -/
def exec_ld_c_a (s : State) : Result := .next (loadRegReg s .c .a)

/-- LD D,B (R300). -/
def exec_ld_d_b (s : State) : Result := .next (loadRegReg s .d .b)

/-- LD D,C (R300). -/
def exec_ld_d_c (s : State) : Result := .next (loadRegReg s .d .c)

/-- LD D,D (R300). -/
def exec_ld_d_d (s : State) : Result := .next (loadRegReg s .d .d)

/-- LD D,E (R300). -/
def exec_ld_d_e (s : State) : Result := .next (loadRegReg s .d .e)

/-- LD D,H (R300). -/
def exec_ld_d_h (s : State) : Result := .next (loadRegReg s .d .h)

/-- LD D,L (R300). -/
def exec_ld_d_l (s : State) : Result := .next (loadRegReg s .d .l)

/-- LD D,(HL) (R302). -/
def exec_ld_d_atHL (s : State) : Result := .next (loadRegAt s .d (regHL s))

/-- LD D,A (R300). -/
def exec_ld_d_a (s : State) : Result := .next (loadRegReg s .d .a)

/-- LD E,B (R300). -/
def exec_ld_e_b (s : State) : Result := .next (loadRegReg s .e .b)

/-- LD E,C (R300). -/
def exec_ld_e_c (s : State) : Result := .next (loadRegReg s .e .c)

/-- LD E,D (R300). -/
def exec_ld_e_d (s : State) : Result := .next (loadRegReg s .e .d)

/-- LD E,E (R300). -/
def exec_ld_e_e (s : State) : Result := .next (loadRegReg s .e .e)

/-- LD E,H (R300). -/
def exec_ld_e_h (s : State) : Result := .next (loadRegReg s .e .h)

/-- LD E,L (R300). -/
def exec_ld_e_l (s : State) : Result := .next (loadRegReg s .e .l)

/-- LD E,(HL) (R302). -/
def exec_ld_e_atHL (s : State) : Result := .next (loadRegAt s .e (regHL s))

/-- LD E,A (R300). -/
def exec_ld_e_a (s : State) : Result := .next (loadRegReg s .e .a)

/-- LD H,B (R300). -/
def exec_ld_h_b (s : State) : Result := .next (loadRegReg s .h .b)

/-- LD H,C (R300). -/
def exec_ld_h_c (s : State) : Result := .next (loadRegReg s .h .c)

/-- LD H,D (R300). -/
def exec_ld_h_d (s : State) : Result := .next (loadRegReg s .h .d)

/-- LD H,E (R300). -/
def exec_ld_h_e (s : State) : Result := .next (loadRegReg s .h .e)

/-- LD H,H (R300). -/
def exec_ld_h_h (s : State) : Result := .next (loadRegReg s .h .h)

/-- LD H,L (R300). -/
def exec_ld_h_l (s : State) : Result := .next (loadRegReg s .h .l)

/-- LD H,(HL) (R302). -/
def exec_ld_h_atHL (s : State) : Result := .next (loadRegAt s .h (regHL s))

/-- LD H,A (R300). -/
def exec_ld_h_a (s : State) : Result := .next (loadRegReg s .h .a)

/-- LD L,B (R300). -/
def exec_ld_l_b (s : State) : Result := .next (loadRegReg s .l .b)

/-- LD L,C (R300). -/
def exec_ld_l_c (s : State) : Result := .next (loadRegReg s .l .c)

/-- LD L,D (R300). -/
def exec_ld_l_d (s : State) : Result := .next (loadRegReg s .l .d)

/-- LD L,E (R300). -/
def exec_ld_l_e (s : State) : Result := .next (loadRegReg s .l .e)

/-- LD L,H (R300). -/
def exec_ld_l_h (s : State) : Result := .next (loadRegReg s .l .h)

/-- LD L,L (R300). -/
def exec_ld_l_l (s : State) : Result := .next (loadRegReg s .l .l)

/-- LD L,(HL) (R302). -/
def exec_ld_l_atHL (s : State) : Result := .next (loadRegAt s .l (regHL s))

/-- LD L,A (R300). -/
def exec_ld_l_a (s : State) : Result := .next (loadRegReg s .l .a)

/-- LD (HL),B (R303). -/
def exec_ld_atHL_b (s : State) : Result := .next (storeAt s (regHL s) (r8 s .b))

/-- LD (HL),C (R303). -/
def exec_ld_atHL_c (s : State) : Result := .next (storeAt s (regHL s) (r8 s .c))

/-- LD (HL),D (R303). -/
def exec_ld_atHL_d (s : State) : Result := .next (storeAt s (regHL s) (r8 s .d))

/-- LD (HL),E (R303). -/
def exec_ld_atHL_e (s : State) : Result := .next (storeAt s (regHL s) (r8 s .e))

/-- LD (HL),H (R303). -/
def exec_ld_atHL_h (s : State) : Result := .next (storeAt s (regHL s) (r8 s .h))

/-- LD (HL),L (R303). -/
def exec_ld_atHL_l (s : State) : Result := .next (storeAt s (regHL s) (r8 s .l))

/-- LD (HL),A (R303). -/
def exec_ld_atHL_a (s : State) : Result := .next (storeAt s (regHL s) (r8 s .a))

/-- LD A,B (R300). -/
def exec_ld_a_b (s : State) : Result := .next (loadRegReg s .a .b)

/-- LD A,C (R300). -/
def exec_ld_a_c (s : State) : Result := .next (loadRegReg s .a .c)

/-- LD A,D (R300). -/
def exec_ld_a_d (s : State) : Result := .next (loadRegReg s .a .d)

/-- LD A,E (R300). -/
def exec_ld_a_e (s : State) : Result := .next (loadRegReg s .a .e)

/-- LD A,H (R300). -/
def exec_ld_a_h (s : State) : Result := .next (loadRegReg s .a .h)

/-- LD A,L (R300). -/
def exec_ld_a_l (s : State) : Result := .next (loadRegReg s .a .l)

/-- LD A,(HL) (R302). -/
def exec_ld_a_atHL (s : State) : Result := .next (loadRegAt s .a (regHL s))

/-- LD A,A (R300). -/
def exec_ld_a_a (s : State) : Result := .next (loadRegReg s .a .a)

/-- LDH (a8),A (R314). -/
def exec_ldh_at8_a (n : Byte) (s : State) : Result := .next (storeAt s (highPage n) s.a)

/-- LDH (C),A (R312). -/
def exec_ldh_atC_a (s : State) : Result := .next (storeAt s (highPage s.c) s.a)

/-- LD (a16),A (R310). -/
def exec_ld_at16_a (nn : Word) (s : State) : Result := .next (storeAt s nn s.a)

/-- LDH A,(a8) (R313). -/
def exec_ldh_a_at8 (n : Byte) (s : State) : Result := .next (loadRegAt s .a (highPage n))

/-- LDH A,(C) (R311). -/
def exec_ldh_a_atC (s : State) : Result := .next (loadRegAt s .a (highPage s.c))

/-- LD A,(a16) (R309). -/
def exec_ld_a_at16 (nn : Word) (s : State) : Result := .next (loadRegAt s .a nn)

end Sys2Proof.Machine
end

