-- ==== Sys2Proof/Machine/Prefix.lean ====
section
/-! DEFINITION. The 0xCB prefix: the secondary opcode's operation read from its fields x, y and z
(R207), and the meaning of PREFIX CB (R808). -/

namespace Sys2Proof.Machine

/-- The rotate or shift coded by y when x = 0 (R207). -/
def rotOfCode (y : Fin 8) : RotOp :=
  match y with
  | 0 => .rlc
  | 1 => .rrc
  | 2 => .rl
  | 3 => .rr
  | 4 => .sla
  | 5 => .sra
  | 6 => .swap
  | 7 => .srl

/-- The operand coded by z: a register, or none for the memory operand (HL) (R203). -/
def regOfCode (z : Fin 8) : Option Reg8 :=
  match z with
  | 0 => some .b
  | 1 => some .c
  | 2 => some .d
  | 3 => some .e
  | 4 => some .h
  | 5 => some .l
  | 6 => none
  | 7 => some .a

/-- The operation of group x with code y on the operand z (R207). -/
def secondaryGroup (s : State) (x : Nat) (y : Fin 8) (z : Option Reg8) : State :=
  match x, z with
  | 0, some r => rotateReg s (rotOfCode y) r
  | 0, none => rotateMemHL s (rotOfCode y)
  | 1, some r => bitTestReg s y r
  | 1, none => bitTestMemHL s y
  | 2, some r => resReg s y r
  | 2, none => resMemHL s y
  | _, some r => setReg s y r
  | _, none => setMemHL s y

/-- The secondary instruction whose opcode byte is `op2`, by its fields (R207, R808). -/
def secondary (s : State) (op2 : Byte) : State :=
  secondaryGroup s (op2.toNat / 64) (Fin.ofNat 8 (op2.toNat / 8)) (regOfCode (Fin.ofNat 8 op2.toNat))

/-- PREFIX CB (R808). -/
def exec_prefix_CB (op2 : Byte) (s : State) : Result := .next (secondary s op2)

end Sys2Proof.Machine
end

