-- ==== Sys2Proof/Machine/Rotate.lean ====
section
/-! DEFINITION. The meanings of the rotates, shifts and SWAP (43_rotate_bit.md sections 2 and 3), one definition per row of the opcode table.
Each is the rest of its schedule after the fetch: PC is already past the instruction (R54). -/

namespace Sys2Proof.Machine

/-- RLCA (R600). -/
def exec_rlca (s : State) : Result := .next (rotateA s .rlc)

/-- RRCA (R601). -/
def exec_rrca (s : State) : Result := .next (rotateA s .rrc)

/-- RLA (R602). -/
def exec_rla (s : State) : Result := .next (rotateA s .rl)

/-- RRA (R603). -/
def exec_rra (s : State) : Result := .next (rotateA s .rr)

/-- RLC B (R604). -/
def exec_rlc_b (s : State) : Result := .next (rotateReg s .rlc .b)

/-- RLC C (R604). -/
def exec_rlc_c (s : State) : Result := .next (rotateReg s .rlc .c)

/-- RLC D (R604). -/
def exec_rlc_d (s : State) : Result := .next (rotateReg s .rlc .d)

/-- RLC E (R604). -/
def exec_rlc_e (s : State) : Result := .next (rotateReg s .rlc .e)

/-- RLC H (R604). -/
def exec_rlc_h (s : State) : Result := .next (rotateReg s .rlc .h)

/-- RLC L (R604). -/
def exec_rlc_l (s : State) : Result := .next (rotateReg s .rlc .l)

/-- RLC (HL) (R605). -/
def exec_rlc_atHL (s : State) : Result := .next (rotateMemHL s .rlc)

/-- RLC A (R604). -/
def exec_rlc_a (s : State) : Result := .next (rotateReg s .rlc .a)

/-- RRC B (R606). -/
def exec_rrc_b (s : State) : Result := .next (rotateReg s .rrc .b)

/-- RRC C (R606). -/
def exec_rrc_c (s : State) : Result := .next (rotateReg s .rrc .c)

/-- RRC D (R606). -/
def exec_rrc_d (s : State) : Result := .next (rotateReg s .rrc .d)

/-- RRC E (R606). -/
def exec_rrc_e (s : State) : Result := .next (rotateReg s .rrc .e)

/-- RRC H (R606). -/
def exec_rrc_h (s : State) : Result := .next (rotateReg s .rrc .h)

/-- RRC L (R606). -/
def exec_rrc_l (s : State) : Result := .next (rotateReg s .rrc .l)

/-- RRC (HL) (R607). -/
def exec_rrc_atHL (s : State) : Result := .next (rotateMemHL s .rrc)

/-- RRC A (R606). -/
def exec_rrc_a (s : State) : Result := .next (rotateReg s .rrc .a)

/-- RL B (R608). -/
def exec_rl_b (s : State) : Result := .next (rotateReg s .rl .b)

/-- RL C (R608). -/
def exec_rl_c (s : State) : Result := .next (rotateReg s .rl .c)

/-- RL D (R608). -/
def exec_rl_d (s : State) : Result := .next (rotateReg s .rl .d)

/-- RL E (R608). -/
def exec_rl_e (s : State) : Result := .next (rotateReg s .rl .e)

/-- RL H (R608). -/
def exec_rl_h (s : State) : Result := .next (rotateReg s .rl .h)

/-- RL L (R608). -/
def exec_rl_l (s : State) : Result := .next (rotateReg s .rl .l)

/-- RL (HL) (R609). -/
def exec_rl_atHL (s : State) : Result := .next (rotateMemHL s .rl)

/-- RL A (R608). -/
def exec_rl_a (s : State) : Result := .next (rotateReg s .rl .a)

/-- RR B (R610). -/
def exec_rr_b (s : State) : Result := .next (rotateReg s .rr .b)

/-- RR C (R610). -/
def exec_rr_c (s : State) : Result := .next (rotateReg s .rr .c)

/-- RR D (R610). -/
def exec_rr_d (s : State) : Result := .next (rotateReg s .rr .d)

/-- RR E (R610). -/
def exec_rr_e (s : State) : Result := .next (rotateReg s .rr .e)

/-- RR H (R610). -/
def exec_rr_h (s : State) : Result := .next (rotateReg s .rr .h)

/-- RR L (R610). -/
def exec_rr_l (s : State) : Result := .next (rotateReg s .rr .l)

/-- RR (HL) (R611). -/
def exec_rr_atHL (s : State) : Result := .next (rotateMemHL s .rr)

/-- RR A (R610). -/
def exec_rr_a (s : State) : Result := .next (rotateReg s .rr .a)

/-- SLA B (R612). -/
def exec_sla_b (s : State) : Result := .next (rotateReg s .sla .b)

/-- SLA C (R612). -/
def exec_sla_c (s : State) : Result := .next (rotateReg s .sla .c)

/-- SLA D (R612). -/
def exec_sla_d (s : State) : Result := .next (rotateReg s .sla .d)

/-- SLA E (R612). -/
def exec_sla_e (s : State) : Result := .next (rotateReg s .sla .e)

/-- SLA H (R612). -/
def exec_sla_h (s : State) : Result := .next (rotateReg s .sla .h)

/-- SLA L (R612). -/
def exec_sla_l (s : State) : Result := .next (rotateReg s .sla .l)

/-- SLA (HL) (R613). -/
def exec_sla_atHL (s : State) : Result := .next (rotateMemHL s .sla)

/-- SLA A (R612). -/
def exec_sla_a (s : State) : Result := .next (rotateReg s .sla .a)

/-- SRA B (R614). -/
def exec_sra_b (s : State) : Result := .next (rotateReg s .sra .b)

/-- SRA C (R614). -/
def exec_sra_c (s : State) : Result := .next (rotateReg s .sra .c)

/-- SRA D (R614). -/
def exec_sra_d (s : State) : Result := .next (rotateReg s .sra .d)

/-- SRA E (R614). -/
def exec_sra_e (s : State) : Result := .next (rotateReg s .sra .e)

/-- SRA H (R614). -/
def exec_sra_h (s : State) : Result := .next (rotateReg s .sra .h)

/-- SRA L (R614). -/
def exec_sra_l (s : State) : Result := .next (rotateReg s .sra .l)

/-- SRA (HL) (R615). -/
def exec_sra_atHL (s : State) : Result := .next (rotateMemHL s .sra)

/-- SRA A (R614). -/
def exec_sra_a (s : State) : Result := .next (rotateReg s .sra .a)

/-- SWAP B (R616). -/
def exec_swap_b (s : State) : Result := .next (rotateReg s .swap .b)

/-- SWAP C (R616). -/
def exec_swap_c (s : State) : Result := .next (rotateReg s .swap .c)

/-- SWAP D (R616). -/
def exec_swap_d (s : State) : Result := .next (rotateReg s .swap .d)

/-- SWAP E (R616). -/
def exec_swap_e (s : State) : Result := .next (rotateReg s .swap .e)

/-- SWAP H (R616). -/
def exec_swap_h (s : State) : Result := .next (rotateReg s .swap .h)

/-- SWAP L (R616). -/
def exec_swap_l (s : State) : Result := .next (rotateReg s .swap .l)

/-- SWAP (HL) (R617). -/
def exec_swap_atHL (s : State) : Result := .next (rotateMemHL s .swap)

/-- SWAP A (R616). -/
def exec_swap_a (s : State) : Result := .next (rotateReg s .swap .a)

/-- SRL B (R618). -/
def exec_srl_b (s : State) : Result := .next (rotateReg s .srl .b)

/-- SRL C (R618). -/
def exec_srl_c (s : State) : Result := .next (rotateReg s .srl .c)

/-- SRL D (R618). -/
def exec_srl_d (s : State) : Result := .next (rotateReg s .srl .d)

/-- SRL E (R618). -/
def exec_srl_e (s : State) : Result := .next (rotateReg s .srl .e)

/-- SRL H (R618). -/
def exec_srl_h (s : State) : Result := .next (rotateReg s .srl .h)

/-- SRL L (R618). -/
def exec_srl_l (s : State) : Result := .next (rotateReg s .srl .l)

/-- SRL (HL) (R619). -/
def exec_srl_atHL (s : State) : Result := .next (rotateMemHL s .srl)

/-- SRL A (R618). -/
def exec_srl_a (s : State) : Result := .next (rotateReg s .srl .a)

end Sys2Proof.Machine
end

