-- ==== Sys2Proof/Machine/System.lean ====
section
/-! DEFINITION. The meanings of the CPU-control instructions and the ILLEGAL descriptors (45_system.md), one definition per row of the opcode table.
Each is the rest of its schedule after the fetch: PC is already past the instruction (R54). -/

namespace Sys2Proof.Machine

/-- NOP (R800). -/
def exec_nop (s : State) : Result := .next s

/-- STOP (R803). -/
def exec_stop (s : State) : Result := .next { s with stopped := true }

/-- HALT (R801). -/
def exec_halt (s : State) : Result := .next (haltCpu s)

/-- ILLEGAL 0xD3 (R807). -/
def exec_illegal_D3 (s : State) : Result := .next (illegalOpcode s 0xD3)

/-- ILLEGAL 0xDB (R807). -/
def exec_illegal_DB (s : State) : Result := .next (illegalOpcode s 0xDB)

/-- ILLEGAL 0xDD (R807). -/
def exec_illegal_DD (s : State) : Result := .next (illegalOpcode s 0xDD)

/-- ILLEGAL 0xE3 (R807). -/
def exec_illegal_E3 (s : State) : Result := .next (illegalOpcode s 0xE3)

/-- ILLEGAL 0xE4 (R807). -/
def exec_illegal_E4 (s : State) : Result := .next (illegalOpcode s 0xE4)

/-- ILLEGAL 0xEB (R807). -/
def exec_illegal_EB (s : State) : Result := .next (illegalOpcode s 0xEB)

/-- ILLEGAL 0xEC (R807). -/
def exec_illegal_EC (s : State) : Result := .next (illegalOpcode s 0xEC)

/-- ILLEGAL 0xED (R807). -/
def exec_illegal_ED (s : State) : Result := .next (illegalOpcode s 0xED)

/-- DI (R804). -/
def exec_di (s : State) : Result := .next { s with ime := false }

/-- ILLEGAL 0xF4 (R807). -/
def exec_illegal_F4 (s : State) : Result := .next (illegalOpcode s 0xF4)

/-- EI (R805). -/
def exec_ei (s : State) : Result := .next { s with eiPending := true }

/-- ILLEGAL 0xFC (R807). -/
def exec_illegal_FC (s : State) : Result := .next (illegalOpcode s 0xFC)

/-- ILLEGAL 0xFD (R807). -/
def exec_illegal_FD (s : State) : Result := .next (illegalOpcode s 0xFD)

end Sys2Proof.Machine
end

