-- ==== Sys2Proof/Machine/Fetch.lean ====
section
/-! DEFINITION. Fetching an instruction: the opcode byte with the halt bug (R806), the operand bytes
(R12), and the instruction they make (R201). -/

namespace Sys2Proof.Machine

/-- `FetchOpcode()`: a ticking read at PC; PC advances unless the halt bug holds it this once (R806).
The byte's address is kept for IllegalOpcode (R807, log 13). -/
def fetchOpcode (s : State) : Byte × State :=
  ((memRead s s.pc).1,
    { (memRead s s.pc).2 with
      pc := if s.haltBug then s.pc else s.pc + 1, haltBug := false, opAddr := s.pc })

/-- `FetchByte()`: a ticking read at PC, which advances (R12). -/
def fetchByte (s : State) : Byte × State :=
  ((memRead s s.pc).1, { (memRead s s.pc).2 with pc := s.pc + 1 })

/-- The operand bytes a format asks for, unused ones as 0; STOP's second byte is skipped unread
(R200, R803). -/
def fetchOperands (s : State) : Format → (Byte × Byte) × State
  | .p1 => ((0, 0), s)
  | .p2 => (((fetchByte s).1, 0), (fetchByte s).2)
  | .p3 => (((fetchByte s).1, (fetchByte (fetchByte s).2).1), (fetchByte (fetchByte s).2).2)
  | .cb => (((fetchByte s).1, 0), (fetchByte s).2)
  | .stop => ((0, 0), { s with pc := s.pc + 1 })

/-- The whole fetch of the instruction at PC: the instruction, and the state in which the rest of its
schedule runs, PC past its bytes (R54, R201). -/
def fetchInstr (s : State) : Instr × State :=
  let op := fetchOpcode s
  let args := fetchOperands op.2 (formatOf op.1)
  (assemble op.1 args.1.1 args.1.2, args.2)

end Sys2Proof.Machine
end

