-- ==== Sys2Proof/Machine/CoreStep.lean ====
section
/-! DEFINITION. ClockCpu and the core step: one instruction or one idle cycle, then HandleInterrupts
(R201, R1020). -/

namespace Sys2Proof.Machine

/-- `ClockCpu()`: nothing in the fault state, an idle cycle while halted or stopped, else the fetch and
the instruction (R201). -/
def clockCpu (s : State) : Result :=
  if s.fault.isSome then .next s
  else if s.halted || s.stopped then .next (idleCycle s)
  else exec (fetchInstr s).1 (fetchInstr s).2

/-- HandleInterrupts after a ClockCpu that went on (R1020). -/
def thenHandle (r : Result) : Result :=
  match r with
  | .next t => .next (handleInterrupts t)
  | .fault x => .fault x
  | .refused x => .refused x

/-- `CoreStep()`: ClockCpu, then HandleInterrupts, the ticks counted from zero (R1020).  Without a
cartridge the spec says nothing of a step, and it is refused by name (R1021, U19); a faulted core
does nothing first of all (R900).  DESIGN CHOICE (log 24): a step that no Reset separates from the load
before it, of which the spec says nothing either (R1011, R1021, U19), runs from the CPU state as it is. -/
def coreStep (s : State) : Result :=
  if s.fault.isNone && decide (s.cart.variant = .absent) then .refused .noCartridge
  else thenHandle (clockCpu { s with ticks := 0 })

end Sys2Proof.Machine
end

