-- ==== Sys2Proof/Machine/HostPort.lean ====
section
/-! DEFINITION. What the host does to the core outside a step: LoadCartridge (R1010), Reset (R1000) and
the placing of an instruction's bytes where the fetch finds them. -/

namespace Sys2Proof.Machine

/-- A cartridge image: its length, and its bytes as (offset, byte) pairs in canonical form, an unlisted
byte being 0x00 (R9 `CART_IMAGE`, log 11). -/
structure Image where
  len   : Nat
  bytes : List Host.Cell
  deriving DecidableEq, Repr

/-- `romByte(off)` of an image (R141). -/
def imageByte (img : Image) (off : Nat) : Byte :=
  if off < img.len then Memory.read zeroByte img.bytes off else 0xFF

/-- The variant a cartridge-type byte selects; none: unsupported (R140). -/
def variantOf (typeByte : Byte) : Option Variant :=
  let t := typeByte.toNat
  if t = 0x00 then some .noBanking
  else if t = 0x01 ∨ t = 0x02 ∨ t = 0x03 then some .mbc1
  else if 0x0F ≤ t ∧ t ≤ 0x13 then some .mbc3
  else none

/-- The RAM length a RAM-size byte gives an MBC cartridge (R142). -/
def ramLenOf (code : Byte) : Nat :=
  match code.toNat with
  | 0x01 => 0x800
  | 0x02 => 0x2000
  | 0x03 => 0x8000
  | 0x04 => 0x20000
  | 0x05 => 0x10000
  | _ => 0

/-- The RAM length at load: none for NoBanking (R142). -/
def loadRamLen (v : Variant) (img : Image) : Nat :=
  match v with
  | .absent => 0
  | .noBanking => 0
  | .mbc1 => ramLenOf (imageByte img 0x0149)
  | .mbc3 => ramLenOf (imageByte img 0x0149)

/-- External RAM at load: zero bytes, with the first of the save bytes copied in (R161). -/
def loadRam (ramLen : Nat) (save : List Byte) : List Host.Cell :=
  (save.take ramLen).zipIdx.foldl (fun m vi => Memory.write zeroByte m vi.2 vi.1) []

/-- The cartridge a successful load builds, the banking state at its load values (R160, R1010). -/
def loadedCart (v : Variant) (img : Image) (save : List Byte) : Cart :=
  { Cart.absent with
    variant := v, romLen := img.len, rom := img.bytes,
    ramLen := loadRamLen v img, eram := loadRam (loadRamLen v img) save }

/-- `LoadCartridge(image, saveRam?)`; no save bytes is the empty list (R1010).  An image over 8MB or of
an unknown type leaves the core in the fault state and changes nothing else (R902); a core already in
the fault state stays as it is (R900, log 22).  The Reset that must follow before the next step (R1011) is
the host's; the model does not check for it (log 24). -/
def loadCartridge (s : State) (img : Image) (save : List Byte) : State :=
  if s.fault.isSome then s
  else if img.len > 0x800000 then
    raiseFatal s (.unsupportedCartridge (imageByte img 0x0147) img.len)
  else match variantOf (imageByte img 0x0147) with
    | none => raiseFatal s (.unsupportedCartridge (imageByte img 0x0147) img.len)
    | some v => { s with cart := loadedCart v img save }

/-- The flat array zeroed, every address in its home (R1000). -/
def zeroFlat (s : State) : State :=
  { s with
    ie := 0x00, iflag := 0x00, mem := [],
    io := Config.periphAddrs.foldl (fun m a => Memory.write Config.powerUp m a 0x00) [] }

/-- The power-up table written with `PeekWrite` (R66, R1000). -/
def seedRegisters (s : State) : State :=
  Config.powerUpTable.foldl (fun t row => busWrite t row.1 row.2) s

/-- The CPU reset: the registers and hidden state of R67. -/
def resetCpu (s : State) : State :=
  { s with
    a := 0x01, b := 0x00, c := 0x13, d := 0x00, e := 0xD8, h := 0x01, l := 0x4D, f := Flags.reset,
    sp := 0xFFFE, pc := 0x0100,
    ime := false, eiPending := false, halted := false, haltBug := false, stopped := false }

/-- `Reset()`: nothing in the fault state; no cartridge field changes (R1000, R1001). -/
def hostReset (s : State) : State :=
  if s.fault.isSome then s else resetCpu (seedRegisters (zeroFlat s))

/-- A blank 32KB NoBanking cartridge: every ROM byte 0x00, its type byte included (R140). -/
def blankCart : Cart := loadedCart .noBanking { len := 0x8000, bytes := [] } []

/-- A core that will run the instruction at PC: a cartridge is loaded, and nothing holds the fetch
back or doubles it. -/
def makeRunnable (s : State) : State :=
  { s with
    fault := none, halted := false, stopped := false, haltBug := false,
    cart := if s.cart.variant = .absent then blankCart else s.cart }

/-- A byte put into the ROM image, which grows to hold the offset. -/
def placeRom (k : Cart) (off : Nat) (v : Byte) : Cart :=
  { k with romLen := max k.romLen (off + 1), rom := Memory.write zeroByte k.rom off v }

/-- A byte put into the storage behind a bus address, where there is any (R101). -/
def placeByte (s : State) (a : Word) (v : Byte) : State :=
  if a.toNat < 0x4000 then { s with cart := placeRom s.cart a.toNat v }
  else if a.toNat < 0x8000 then
    { s with cart := placeRom s.cart (upperOffset s.cart a.toNat) v }
  else if 0xA000 ≤ a.toNat ∧ a.toNat < 0xC000 then
    { s with cart := writeExternal s.cart a.toNat v }
  else if Config.isAudio a.toNat then s
  else flatWrite s a v

/-- Bytes put at consecutive addresses. -/
def placeBytes (s : State) (a : Word) : List Byte → State
  | [] => s
  | v :: vs => placeBytes (placeByte s a v) (a + 1) vs

end Sys2Proof.Machine
end

