-- ==== Sys2Proof/Machine/Step.lean ====
section
/-! DEFINITION. One step of the machine, and a table word placed where the next step fetches it. -/

namespace Sys2Proof.Machine

/-- One step: the spec's core step (R1020). -/
def step (s : State) : Host.Outcome State Fault Refusal := coreStep s

/-- `s` with the instruction of a table word stored where the next fetch reads it.  It stands for the
load of a program: a cartridge is put in where there is none (log 2). -/
def State.withFetchWord (s : State) (nbits w : Nat) : State :=
  placeBytes (makeRunnable s) s.pc (tableBytes nbits w)

end Sys2Proof.Machine
end

