-- ==== Sys2Proof/Safety.lean ====
section
/-! DEFINITION. What every reachable state is like, which bytes are the Peripherals' to change, and when
a run has ended. -/

namespace Sys2Proof.Machine

/-- The addresses whose byte may be another at the next read although no instruction stored there:
`PERIPH_WRITABLE`, IF, and the audio range (R104, R941). -/
def periphOwned (a : Word) : Bool :=
  Config.periphWritable a.toNat || Config.isAudio a.toNat || a == 0xFF0F

/-- The addresses the field `mem` is the home of: the flat array that the bus reaches and a store can
change, without the Peripherals' bytes, IE and IF (R63, R101, R102).  0xFF46 is not among them: no
store reaches that byte (R105). -/
def memHome (a : Nat) : Bool :=
  decide ((0x8000 ≤ a ∧ a < 0xA000) ∨ (0xC000 ≤ a ∧ a < 0xFFFF)) &&
    !Config.periphWritable a && !Config.isAudio a && decide (a ≠ 0xFF0F) && decide (a ≠ 0xFF46)

/-- The invariant of the cartridge: canonical byte lists inside the image and the RAM, a RAM length and
an image length the spec knows (R141, R142), no RAM without a banking controller (R146), and an MBC3
bank register that is never 0 (R154). -/
structure CartInv (k : Cart) : Prop where
  rom_wf : Memory.wf zeroByte k.rom
  rom_within : Memory.within (fun a => decide (a < k.romLen)) k.rom
  rom_bound : k.romLen ≤ 0x800000
  eram_wf : Memory.wf zeroByte k.eram
  eram_within : Memory.within (fun a => decide (a < k.ramLen)) k.eram
  ram_sizes : k.ramLen ∈ [0, 0x800, 0x2000, 0x8000, 0x10000, 0x20000]
  no_banking : k.variant = .absent ∨ k.variant = .noBanking → k.ramEnabled = false ∧ k.ramLen = 0
  bank_nonzero : k.romBank7 ≠ 0

/-- The invariant every core step keeps: canonical memory in its homes, no deferred enable left over
between steps (R61), and a waiting CPU that waits for one thing and owes no halt bug (R801, R803). -/
structure Inv (s : State) : Prop where
  mem_wf : Memory.wf zeroByte s.mem
  mem_within : Memory.within memHome s.mem
  io_wf : Memory.wf Config.powerUp s.io
  io_within : Memory.within Config.periphWritable s.io
  cart : CartInv s.cart
  enable_spent : s.eiPending = false
  one_wait : ¬(s.halted = true ∧ s.stopped = true)
  wait_no_bug : s.halted = true ∨ s.stopped = true → s.haltBug = false

/-- The clean end of a run (R1022 (a)). -/
def Final (s : State) : Prop := s.fault = none ∧ s.halted = true ∧ s.ie &&& 0x1F = 0

/-- The failed end of a run (R1022 (b)). -/
def Failed (s : State) : Prop := s.fault ≠ none

/-! ## The vocabulary of the statements: what a step leaves alone, and what M-cycles do -/

/-- Every register but the listed ones holds what it held. -/
def Keeps (touched : List Reg8) (s t : State) : Prop := ∀ q, q ∉ touched → r8 t q = r8 s q

/-- The registers, F, SP and PC are what they were. -/
structure SameRegs (s t : State) : Prop where
  regs : Keeps [] s t
  f : t.f = s.f
  sp : t.sp = s.sp
  pc : t.pc = s.pc

/-- The hidden CPU state of R60 is what it was, and so is the model's `opAddr`. -/
structure SameHidden (s t : State) : Prop where
  ime : t.ime = s.ime
  eiPending : t.eiPending = s.eiPending
  halted : t.halted = s.halted
  haltBug : t.haltBug = s.haltBug
  stopped : t.stopped = s.stopped
  fault : t.fault = s.fault
  opAddr : t.opAddr = s.opAddr

/-- Nothing but A to L, F, SP and PC differs: no time passes, no memory and no hidden state changes. -/
def RegsOnly (s t : State) : Prop :=
  { t with a := s.a, b := s.b, c := s.c, d := s.d, e := s.e, h := s.h, l := s.l, f := s.f,
           sp := s.sp, pc := s.pc } = s

/-- What the Peripherals may have done to IF: bits 0 to 4 may be set, no bit is cleared, bits 5 to 7
stay (R913). -/
def Requested (old new : Byte) : Prop :=
  ∀ i, (old.getLsbD i = true → new.getLsbD i = true) ∧ (5 ≤ i → new.getLsbD i = old.getLsbD i)

/-- From `s` to `t`, `n` M-cycles pass in which nothing is stored: hidden state, cartridge and IE stay,
IF may gain requests, every byte that is not the Peripherals' reads as before, 4 ticks each (R13, R112,
R913, R941).  The registers, F, SP and PC are not mentioned. -/
structure Waits (n : Nat) (s t : State) : Prop where
  hidden : SameHidden s t
  cart : t.cart = s.cart
  ie : t.ie = s.ie
  iflag : Requested s.iflag t.iflag
  bytes : ∀ x, periphOwned x = false → busByte t x = busByte s x
  ticks : t.ticks = s.ticks + 4 * n

/-- The external window 0xA000-0xBFFF (R107). -/
def inExternal (a : Word) : Bool := decide (0xA000 ≤ a.toNat ∧ a.toNat < 0xC000)

/-- The stores of R102 that put their byte into the flat array. -/
def storesFlat (a : Word) : Bool :=
  decide (0x8000 ≤ a.toNat) && !inExternal a && !Config.isAudio a.toNat && a != 0xFF46

/-- The addresses whose byte a store to `a` may change (R102): a bank-control write may switch what the
ROM and external windows show, external RAM may repeat inside its window, an audio write changes no byte
of the core, a DMA start copies into OAM, and any other store changes its own byte. -/
def storeReach (a x : Word) : Bool :=
  if a.toNat < 0x8000 then decide (x.toNat < 0x8000) || inExternal x
  else if inExternal a then inExternal x
  else if Config.isAudio a.toNat then false
  else if a = 0xFF46 then decide (0xFE00 ≤ x.toNat ∧ x.toNat < 0xFEA0)
  else x == a

/-- One M-cycle from `s` to `t` whose access stores `v` at `a` (R12, R102): registers and hidden state
stay, 4 ticks pass, the cartridge takes a control or external write, the flat array takes its byte, a
DMA start copies its 160 bytes, and every other byte that is not the Peripherals' reads as before. -/
structure StoreCycle (s t : State) (a : Word) (v : Byte) : Prop where
  regs : SameRegs s t
  hidden : SameHidden s t
  ticks : t.ticks = s.ticks + 4
  cart : t.cart =
    if a.toNat < 0x8000 then writeToRom s.cart a.toNat v (Config.rtcNow s.draws)
    else if inExternal a then writeExternal s.cart a.toNat v
    else s.cart
  ie : t.ie = if a = 0xFFFF then v else s.ie
  iflag : if a = 0xFF0F then t.iflag = v else Requested s.iflag t.iflag
  stored : storesFlat a = true → flatRead t a = v
  dma : a = 0xFF46 → ∀ i < 160, periphOwned (mkWord v 0 + BitVec.ofNat 16 i) = false →
    busByte t (0xFE00 + BitVec.ofNat 16 i) = busByte s (mkWord v 0 + BitVec.ofNat 16 i)
  frame : ∀ x, periphOwned x = false → storeReach a x = false → busByte t x = busByte s x

/-- A byte push in one M-cycle: SP falls by one and the byte is stored there (R53). -/
def Pushes (s t : State) (v : Byte) : Prop := StoreCycle { s with sp := s.sp - 1 } t (s.sp - 1) v

/-- A 16-bit push: high byte first, then low byte (R108). -/
def PushesWord (s t : State) (w : Word) : Prop := ∃ m, Pushes s m (hi8 w) ∧ Pushes m t (lo8 w)

/-- The M-cycles of the fetch (R200): one for each byte, but STOP's second byte is not read (R803). -/
def fetchCycles : Instr → Nat
  | .stop => 1
  | i => instrLength i

/-- The bytes `bs` stand at the addresses from `a` on, none of them at an address of the Peripherals. -/
def BytesAt (s : State) (a : Word) : List Byte → Prop
  | [] => True
  | v :: vs => periphOwned a = false ∧ busByte s a = v ∧ BytesAt s (a + 1) vs

end Sys2Proof.Machine
end

