-- ==== Sys2Proof/WellFormed.lean ====
section
/-! DEFINITION. Which terms of `Instr` are instructions in their own right.  Every operand has exactly
the width its encoding gives it, so the one check left is on the prefix. -/

namespace Sys2Proof

/-- PREFIX CB "consumes no instruction slot": with its second byte it IS the secondary table's
instruction (R808), and the decoder answers that one, so `prefix_CB s` is not well-formed by itself.
Every other term is an instruction. -/
def WellFormed (i : Instr) : Bool :=
  match i with
  | .prefix_CB _ => false
  | _ => true

end Sys2Proof
end

