-- ==== Sys2Proof/Certificates/Slice0/Obligations.lean ====
section
/-! DEFINITION. The statements for the provers.  The first part holds what the statements are written
with: the operand codes of 30_encoding.md and the arithmetic of 41_alu8.md to 43_rotate_bit.md over
numbers and single bits, written from the spec and not from the model's own functions.  Safety.lean
holds the frames (`Keeps`, `Waits`, `StoreCycle`, `PushesWord`). -/

namespace Sys2Proof.Claims

open Sys2Proof.Machine

/-! ## Operand codes -/

/-- The register code of R203. -/
def regCode : Reg8 → Byte
  | .b => 0
  | .c => 1
  | .d => 2
  | .e => 3
  | .h => 4
  | .l => 5
  | .a => 7

/-- The pair code of R204, both tables: SP and AF share 3. -/
def pairCode : Reg16 → Byte
  | .bc => 0
  | .de => 1
  | .hl => 2
  | .sp => 3

def stkCode : StkReg → Byte
  | .bc => 0
  | .de => 1
  | .hl => 2
  | .af => 3

/-- The condition code of R205. -/
def condCode : Cond → Byte
  | .nz => 0
  | .z => 1
  | .nc => 2
  | .c => 3

/-- The ALU code of R206. -/
def aluCode : AluOp → Byte
  | .add => 0
  | .adc => 1
  | .sub => 2
  | .sbc => 3
  | .and => 4
  | .xor => 5
  | .or => 6
  | .cp => 7

/-- The rotate and shift code of R207. -/
def rotCode : RotOp → Byte
  | .rlc => 0
  | .rrc => 1
  | .rl => 2
  | .rr => 3
  | .sla => 4
  | .sra => 5
  | .swap => 6
  | .srl => 7

/-- A bit index as the field bbb. -/
def bitCode (b : Fin 8) : Byte := BitVec.ofNat 8 b.val

/-- The registers of a pair. -/
def halves : Reg16 → List Reg8
  | .bc => [.b, .c]
  | .de => [.d, .e]
  | .hl => [.h, .l]
  | .sp => []

def stkHalves : StkReg → List Reg8
  | .bc => [.b, .c]
  | .de => [.d, .e]
  | .hl => [.h, .l]
  | .af => [.a]

/-- A pair holds a 16-bit value: its high register the high byte, its low register the low byte (R52). -/
def PairHolds (s : State) (p : Reg16) (w : Word) : Prop :=
  match p with
  | .bc => s.b.toNat = w.toNat / 256 ∧ s.c.toNat = w.toNat % 256
  | .de => s.d.toNat = w.toNat / 256 ∧ s.e.toNat = w.toNat % 256
  | .hl => s.h.toNat = w.toNat / 256 ∧ s.l.toNat = w.toNat % 256
  | .sp => s.sp = w

/-- A byte shows the flags: Z, N, H and C in bits 7 to 4, zeros below (R51, R55). -/
def ShowsFlags (v : Byte) (f : Flags) : Prop :=
  v.getLsbD 7 = f.z ∧ v.getLsbD 6 = f.n ∧ v.getLsbD 5 = f.h ∧ v.getLsbD 4 = f.c ∧ v.toNat % 16 = 0

/-- The high and the low byte that PUSH stores for a pair (R52, R330). -/
def PushedBytes (s : State) (p : StkReg) (high low : Byte) : Prop :=
  match p with
  | .bc => high = s.b ∧ low = s.c
  | .de => high = s.d ∧ low = s.e
  | .hl => high = s.h ∧ low = s.l
  | .af => high = s.a ∧ ShowsFlags low s.f

/-- What POP writes from the high and the low byte it read: the pair, or A and bits 7 to 4 of the low
byte as Z, N, H and C (R51, R52, R331). -/
def PoppedInto (t : State) (p : StkReg) (high low : Byte) : Prop :=
  match p with
  | .bc => t.b = high ∧ t.c = low
  | .de => t.d = high ∧ t.e = low
  | .hl => t.h = high ∧ t.l = low
  | .af => t.a = high ∧
      t.f = { z := low.getLsbD 7, n := low.getLsbD 6, h := low.getLsbD 5, c := low.getLsbD 4 }

/-- When a condition holds (R205). -/
def Taken (f : Flags) : Cond → Prop
  | .nz => f.z = false
  | .z => f.z = true
  | .nc => f.c = false
  | .c => f.c = true

/-! ## Arithmetic over numbers -/

/-- The low byte and the high byte of a 16-bit value. -/
def lowByte (w : Word) : Byte := BitVec.ofNat 8 (w.toNat % 256)
def highByte (w : Word) : Byte := BitVec.ofNat 8 (w.toNat / 256)

/-- 16-bit sums with a signed displacement, modulo 2^16 (R332, R503, R705). -/
def displaced (w : Word) (e : Byte) : Word := BitVec.ofInt 16 (w.toNat + e.toInt)

/-- The flags of an 8-bit sum and of an 8-bit difference: Z from the result, H at bit 3, C at bit 7
(R57). -/
def sumFlags (a b c : Nat) : Flags :=
  { z := (a + b + c) % 256 == 0, n := false, h := decide (16 ≤ a % 16 + b % 16 + c),
    c := decide (256 ≤ a + b + c) }

def differenceFlags (a b c : Nat) : Flags :=
  { z := (a + 512 - b - c) % 256 == 0, n := true, h := decide (a % 16 < b % 16 + c),
    c := decide (a < b + c) }

/-- What an 8-bit ALU operation does to A and F: sums and differences as numbers, logic bit by bit
(R400 to R423). -/
def AluSpec (o : AluOp) (a b : Byte) (c : Bool) (a' : Byte) (f' : Flags) : Prop :=
  match o with
  | .add => a'.toNat = (a.toNat + b.toNat) % 256 ∧ f' = sumFlags a.toNat b.toNat 0
  | .adc => a'.toNat = (a.toNat + b.toNat + c.toNat) % 256 ∧
      f' = sumFlags a.toNat b.toNat c.toNat
  | .sub => a'.toNat = (a.toNat + 256 - b.toNat) % 256 ∧ f' = differenceFlags a.toNat b.toNat 0
  | .sbc => a'.toNat = (a.toNat + 512 - b.toNat - c.toNat) % 256 ∧
      f' = differenceFlags a.toNat b.toNat c.toNat
  | .and => (∀ i, a'.getLsbD i = (a.getLsbD i && b.getLsbD i)) ∧
      f' = { z := a' == 0, n := false, h := true, c := false }
  | .xor => (∀ i, a'.getLsbD i = (a.getLsbD i ^^ b.getLsbD i)) ∧
      f' = { z := a' == 0, n := false, h := false, c := false }
  | .or => (∀ i, a'.getLsbD i = (a.getLsbD i || b.getLsbD i)) ∧
      f' = { z := a' == 0, n := false, h := false, c := false }
  | .cp => a' = a ∧ f' = differenceFlags a.toNat b.toNat 0

/-- The flags of an 8-bit INC and DEC of the old value `v`; C stays (R424, R426). -/
def incSpec (f : Flags) (v : Byte) : Flags :=
  { z := (v.toNat + 1) % 256 == 0, n := false, h := v.toNat % 16 == 15, c := f.c }

def decSpec (f : Flags) (v : Byte) : Flags :=
  { z := v.toNat == 1, n := true, h := v.toNat % 16 == 0, c := f.c }

/-- The flags of ADD SP,e and LD HL,SP+e: the low byte of SP and the raw byte, unsigned (R332, R503). -/
def offsetSpec (sp : Word) (e : Byte) : Flags :=
  { z := false, n := false, h := decide (16 ≤ sp.toNat % 16 + e.toNat % 16),
    c := decide (256 ≤ sp.toNat % 256 + e.toNat) }

/-- Bit `i` of the result of `Shift(op, v, c)` (R626). -/
def shiftBit (o : RotOp) (v : Byte) (c : Bool) (i : Nat) : Bool :=
  match o with
  | .rlc => v.getLsbD ((i + 7) % 8)
  | .rrc => v.getLsbD ((i + 1) % 8)
  | .rl => if i = 0 then c else v.getLsbD (i - 1)
  | .rr => if i = 7 then c else v.getLsbD (i + 1)
  | .sla => if i = 0 then false else v.getLsbD (i - 1)
  | .sra => if i = 7 then v.getLsbD 7 else v.getLsbD (i + 1)
  | .srl => if i = 7 then false else v.getLsbD (i + 1)
  | .swap => v.getLsbD ((i + 4) % 8)

/-- The bit that `Shift(op, v, c)` shifts out (R626). -/
def shiftOut (o : RotOp) (v : Byte) : Bool :=
  match o with
  | .rlc | .rl | .sla => v.getLsbD 7
  | .rrc | .rr | .sra | .srl => v.getLsbD 0
  | .swap => false

/-- `r` is the result of the shift of `v`. -/
def IsShift (o : RotOp) (v : Byte) (c : Bool) (r : Byte) : Prop :=
  ∀ i < 8, r.getLsbD i = shiftBit o v c i

/-- DAA's A and carry (R428), as numbers. -/
def daaSpec (a : Nat) (f : Flags) : Nat × Bool :=
  if f.n then
    let a1 := if f.c then (a + 256 - 0x60) % 256 else a
    (if f.h then (a1 + 256 - 0x06) % 256 else a1, f.c)
  else
    let high := f.c || decide (0x99 < a)
    let a1 := if high then (a + 0x60) % 256 else a
    (if f.h || decide (9 < a1 % 16) then (a1 + 0x06) % 256 else a1, high)

/-- A two-digit packed decimal byte and its number. -/
def isBcd (v : Byte) : Bool := decide (v.toNat / 16 ≤ 9) && decide (v.toNat % 16 ≤ 9)

def bcdValue (v : Byte) : Nat := 10 * (v.toNat / 16) + v.toNat % 16

/-! ## What an instruction does, said once for several -/

/-- `i` loads register `q` from address `a`: one MemRead, nothing else (R12, R302). -/
def LoadsFrom (i : Instr) (s : State) (q : Reg8) (a : Word) : Prop :=
  ∃ t, exec i s = .next t ∧ r8 t q = busByte (accessCycle s) a ∧
    (periphOwned a = false → r8 t q = busByte s a) ∧
    Keeps [q] s t ∧ t.f = s.f ∧ t.sp = s.sp ∧ t.pc = s.pc ∧ Waits 1 s t

/-- `i` stores the byte `v` at address `a`: one MemWrite, nothing else. -/
def StoresTo (i : Instr) (s : State) (a : Word) (v : Byte) : Prop :=
  ∃ t, exec i s = .next t ∧ StoreCycle s t a v

/-- `i` changes only F, to `f'`. -/
def SetsFlags (i : Instr) (s : State) (f' : Flags) : Prop :=
  ∃ t, exec i s = .next t ∧ t.f = f' ∧ Keeps [] s t ∧ t.sp = s.sp ∧ t.pc = s.pc ∧ RegsOnly s t

/-- `i` reads the byte at HL and in the next M-cycle writes `g` of it back, with F becoming `f'` of the
byte read (R172). -/
def ReadsThenWrites (i : Instr) (s : State) (g : Byte → Byte → Prop) (f' : Byte → Byte → Flags) :
    Prop :=
  let v := busByte (accessCycle s) (regHL s)
  let m := (memRead s (regHL s)).2
  ∃ w u t, exec i s = .next t ∧ g v w ∧ SameRegs s m ∧ Waits 1 s m ∧ StoreCycle m u (regHL s) w ∧
    t = { u with f := f' v w }

/-- The push of a return address after one internal M-cycle, and the jump (R707, R712): high byte at
SP-1, low byte at SP-2, every other byte as before. -/
def Calls (i : Instr) (s : State) (target : Word) : Prop :=
  ∃ u t, exec i s = .next t ∧ t.pc = target ∧ t = { u with pc := target } ∧
    PushesWord (internal s) u s.pc ∧ t.sp = s.sp - 2 ∧ Keeps [] s t ∧ t.f = s.f ∧
    SameHidden s t ∧ t.ticks = s.ticks + 12 ∧
    (∀ x, periphOwned x = false → storeReach (s.sp - 1) x = false →
      storeReach (s.sp - 2) x = false → busByte t x = busByte s x)

/-- `v` is the 16-bit value the pops of `s` deliver: low byte at SP, then high byte at SP+1 one M-cycle
later (R108). -/
def PopsValue (s : State) (v : Word) : Prop :=
  lowByte v = busByte (accessCycle s) s.sp ∧
    highByte v = busByte (accessCycle (memRead s s.sp).2) (s.sp + 1) ∧
    (periphOwned s.sp = false → lowByte v = busByte s s.sp) ∧
    (periphOwned (s.sp + 1) = false → highByte v = busByte s (s.sp + 1))

/-- Only PC and SP differ, and `n` M-cycles pass. -/
def JumpsAfter (n : Nat) (s t : State) (target sp : Word) : Prop :=
  t.pc = target ∧ t.sp = sp ∧ Keeps [] s t ∧ t.f = s.f ∧ Waits n s t

/-- The lowest bit set of a mask (R924). -/
def IsLowest (pend : Byte) (k : Fin 5) : Prop :=
  pend.getLsbD k = true ∧ ∀ j < k.val, pend.getLsbD j = false

/-- The instructions that read a flag other than to keep or complement it (R56). -/
def readsFlags (i : Instr) : Bool :=
  match i with
  | .jr_nz_r8 _ | .jr_z_r8 _ | .jr_nc_r8 _ | .jr_c_r8 _ => true
  | .jp_nz_a16 _ | .jp_z_a16 _ | .jp_nc_a16 _ | .jp_c_a16 _ => true
  | .call_nz_a16 _ | .call_z_a16 _ | .call_nc_a16 _ | .call_c_a16 _ => true
  | .ret_nz | .ret_z | .ret_nc | .ret_c => true
  | .adc_a_b | .adc_a_c | .adc_a_d | .adc_a_e | .adc_a_h | .adc_a_l | .adc_a_atHL | .adc_a_a
  | .adc_a_d8 _ => true
  | .sbc_a_b | .sbc_a_c | .sbc_a_d | .sbc_a_e | .sbc_a_h | .sbc_a_l | .sbc_a_atHL | .sbc_a_a
  | .sbc_a_d8 _ => true
  | .rla | .rra => true
  | .rl_b | .rl_c | .rl_d | .rl_e | .rl_h | .rl_l | .rl_atHL | .rl_a => true
  | .rr_b | .rr_c | .rr_d | .rr_e | .rr_h | .rr_l | .rr_atHL | .rr_a => true
  | .daa | .push_af | .prefix_CB _ => true
  | _ => false

/-! ## The costs of R210 and R211 -/

/-- The cost in ticks of each primary opcode, the taken cost where it has two (the second map of R210;
0xCB shows its prefix fetch only). -/
def takenRows : List (List Nat) := [
  [4, 12, 8, 8, 4, 4, 8, 4, 20, 8, 8, 8, 4, 4, 8, 4],
  [4, 12, 8, 8, 4, 4, 8, 4, 12, 8, 8, 8, 4, 4, 8, 4],
  [12, 12, 8, 8, 4, 4, 8, 4, 12, 8, 8, 8, 4, 4, 8, 4],
  [12, 12, 8, 8, 12, 12, 12, 4, 12, 8, 8, 8, 4, 4, 8, 4],
  [4, 4, 4, 4, 4, 4, 8, 4, 4, 4, 4, 4, 4, 4, 8, 4],
  [4, 4, 4, 4, 4, 4, 8, 4, 4, 4, 4, 4, 4, 4, 8, 4],
  [4, 4, 4, 4, 4, 4, 8, 4, 4, 4, 4, 4, 4, 4, 8, 4],
  [8, 8, 8, 8, 8, 8, 4, 8, 4, 4, 4, 4, 4, 4, 8, 4],
  [4, 4, 4, 4, 4, 4, 8, 4, 4, 4, 4, 4, 4, 4, 8, 4],
  [4, 4, 4, 4, 4, 4, 8, 4, 4, 4, 4, 4, 4, 4, 8, 4],
  [4, 4, 4, 4, 4, 4, 8, 4, 4, 4, 4, 4, 4, 4, 8, 4],
  [4, 4, 4, 4, 4, 4, 8, 4, 4, 4, 4, 4, 4, 4, 8, 4],
  [20, 12, 16, 16, 24, 16, 8, 16, 20, 16, 16, 4, 24, 24, 8, 16],
  [20, 12, 16, 4, 24, 16, 8, 16, 20, 16, 16, 4, 24, 4, 8, 16],
  [12, 12, 8, 4, 4, 16, 8, 16, 16, 4, 16, 4, 4, 4, 8, 16],
  [12, 12, 8, 4, 4, 16, 8, 16, 12, 8, 16, 4, 4, 4, 8, 16]]

def takenTicks (op : Byte) : Nat := (takenRows.getD (op.toNat / 16) []).getD (op.toNat % 16) 0

/-- The not-taken cost of the opcodes that have one: JR cc and RET cc 8, JP cc and CALL cc 12 (R701). -/
def notTakenTicks (op : Byte) : Option Nat :=
  if op ∈ [0x20, 0x28, 0x30, 0x38, 0xC0, 0xC8, 0xD0, 0xD8] then some 8
  else if op ∈ [0xC2, 0xCA, 0xD2, 0xDA, 0xC4, 0xCC, 0xD4, 0xDC] then some 12
  else none

/-- The condition in bits 4..3 of an opcode (R205). -/
def conditionBits (op : Byte) (f : Flags) : Bool :=
  match op.toNat / 8 % 4 with
  | 0 => !f.z
  | 1 => f.z
  | 2 => !f.c
  | _ => f.c

/-- The total cost of the CB opcode `s`, both fetches included (R211). -/
def prefixedTicks (s : Byte) : Nat :=
  if s.toNat % 8 ≠ 6 then 8
  else if 0x40 ≤ s.toNat ∧ s.toNat < 0x80 then 12
  else 16

/-- The total cost of the instruction of opcode `op` and next byte `n`, under flags `f` (R210, R211). -/
def totalTicks (op n : Byte) (f : Flags) : Nat :=
  if op = 0xCB then prefixedTicks n
  else match notTakenTicks op with
    | none => takenTicks op
    | some c => if conditionBits op f then takenTicks op else c

/-- How many of an opcode's M-cycles are Internal: the `Internal()` entries of its schedule, two of
them in ADD SP,e and in a RET cc that returns (40_loads.md, 42_alu16.md, 44_control.md). -/
def internalCycles (op : Byte) (f : Flags) : Nat :=
  if op = 0xE8 then 2
  else if op ∈ [0xC0, 0xC8, 0xD0, 0xD8] then (if conditionBits op f then 2 else 1)
  else if op ∈ [0x20, 0x28, 0x30, 0x38, 0xC2, 0xCA, 0xD2, 0xDA, 0xC4, 0xCC, 0xD4, 0xDC] then
    (if conditionBits op f then 1 else 0)
  else if op ∈ [0x03, 0x13, 0x23, 0x33, 0x09, 0x19, 0x29, 0x39, 0x0B, 0x1B, 0x2B, 0x3B, 0x18,
      0xC3, 0xCD, 0xC9, 0xD9, 0xF8, 0xF9, 0xC5, 0xD5, 0xE5, 0xF5,
      0xC7, 0xCF, 0xD7, 0xDF, 0xE7, 0xEF, 0xF7, 0xFF] then 1
  else 0

/-- The M-cycles of `n` that deliver no `Clock(4)`: none under PER_MCYCLE, all `n` Internal ones under
PER_ACCESS (R12, R940). -/
def silent (n : Nat) : Nat := if Config.tickPolicy = .perMCycle then 0 else n

/-- The power-up bytes that are not zero (R66, R67); the audio range is the peripheral's. -/
def powerUpByte (x : Word) : Byte :=
  if x = 0xFF40 then 0x91
  else if x = 0xFF47 then 0xFC
  else if x = 0xFF48 then 0xFF
  else if x = 0xFF49 then 0xFF
  else 0x00

/-- The offset in the ROM image of a window address, for a bank number (R141, R144). -/
def windowByte (k : Cart) (bank a : Nat) : Byte :=
  let off := bank % max 1 ((k.romLen + 16383) / 16384) * 16384 + (a - 0x4000)
  if off < k.romLen then Memory.read zeroByte k.rom off else 0xFF

end Sys2Proof.Claims

open Sys2Proof Sys2Proof.Machine Sys2Proof.Claims

/-! ## Encoding -/

/-- Encoding an instruction and decoding it gives the instruction back, whatever bytes follow. -/
def Obligations.DecodeOfEncode : Prop :=
  ∀ (i : Instr) (rest : List Byte), WellFormed i = true → decode (encode i ++ rest) = .ok (i, rest)

/-- Three bytes always hold an instruction, and the bytes that decode to one are its encoding; STOP's are
0x10 and any second byte, which is skipped (R200, R202, R213, R803). -/
def Obligations.DecodedBytesAreTheEncoding : Prop :=
  (∀ x y z rest, ∃ i r, decode (x :: y :: z :: rest) = .ok (i, r)) ∧
  ∀ (bs : List Byte) (i : Instr) (rest : List Byte), decode bs = .ok (i, rest) →
    WellFormed i = true ∧ ∃ used, bs = used ++ rest ∧ used.length = instrLength i ∧
      (i ≠ .stop → used = encode i) ∧ (i = .stop → ∃ skipped, used = [0x10, skipped])

/-- Words written out bit by bit from the spec's encodings decode to their instructions. -/
def Obligations.KnownWordsDecode : Prop :=
  decode [0b01111000] = .ok (.ld_a_b, []) ∧
  decode [0b00001110, 0x5A] = .ok (.ld_c_d8 0x5A, []) ∧
  decode [0b00110001, 0xFF, 0xDF] = .ok (.ld_sp_d16 0xDFFF, []) ∧
  decode [0b11110101] = .ok (.push_af, []) ∧
  decode [0b10011100] = .ok (.sbc_a_h, []) ∧
  decode [0b00101001] = .ok (.add_hl_hl, []) ∧
  decode [0b11001011, 0b00101010] = .ok (.sra_d, []) ∧
  decode [0b11001011, 0b01111100] = .ok (.bit_7_h, []) ∧
  decode [0b11001011, 0b10000110] = .ok (.res_0_atHL, []) ∧
  decode [0b00111000, 0x10] = .ok (.jr_c_r8 0x10, []) ∧
  decode [0b11001100, 0x00, 0x03] = .ok (.call_z_a16 0x0300, []) ∧
  decode [0b11101111] = .ok (.rst_28, []) ∧
  decode [0b01110110] = .ok (.halt, []) ∧
  decode [0b00010000, 0x00] = .ok (.stop, []) ∧
  decode [0b11010011] = .ok (.illegal_D3, [])

/-- Every instruction family's bytes, field by field (the Encoding lines of 40_loads.md to 45_system.md,
R203 to R209). -/
def Obligations.EncodingFields : Prop :=
  (∀ q r, encode (.ldRegReg q r) = [0x40 + 8 * regCode q + regCode r]) ∧
  (∀ q n, encode (.ldRegImm q n) = [0x06 + 8 * regCode q, n]) ∧
  (∀ q, encode (.ldRegMem q) = [0x46 + 8 * regCode q]) ∧
  (∀ r, encode (.ldMemReg r) = [0x70 + regCode r]) ∧
  (∀ p nn, encode (.ldPairImm p nn) = [0x01 + 16 * pairCode p, lowByte nn, highByte nn]) ∧
  (∀ p, encode (.push p) = [0xC5 + 16 * stkCode p]) ∧
  (∀ p, encode (.pop p) = [0xC1 + 16 * stkCode p]) ∧
  (∀ o r, encode (.aluReg o r) = [0x80 + 8 * aluCode o + regCode r]) ∧
  (∀ o, encode (.aluMem o) = [0x86 + 8 * aluCode o]) ∧
  (∀ o n, encode (.aluImm o n) = [0xC6 + 8 * aluCode o, n]) ∧
  (∀ r, encode (.incReg r) = [0x04 + 8 * regCode r]) ∧
  (∀ r, encode (.decReg r) = [0x05 + 8 * regCode r]) ∧
  (∀ p, encode (.addHL p) = [0x09 + 16 * pairCode p]) ∧
  (∀ p, encode (.incPair p) = [0x03 + 16 * pairCode p]) ∧
  (∀ p, encode (.decPair p) = [0x0B + 16 * pairCode p]) ∧
  (∀ k nn, encode (.jpCond k nn) = [0xC2 + 8 * condCode k, lowByte nn, highByte nn]) ∧
  (∀ k e, encode (.jrCond k e) = [0x20 + 8 * condCode k, e]) ∧
  (∀ k nn, encode (.callCond k nn) = [0xC4 + 8 * condCode k, lowByte nn, highByte nn]) ∧
  (∀ k, encode (.retCond k) = [0xC0 + 8 * condCode k]) ∧
  (∀ y, encode (.rst y) = [0xC7 + 8 * bitCode y]) ∧
  (∀ k, encode (.illegal k) = [illegalByte k]) ∧
  (∀ o r, encode (.rotReg o r) = [0xCB, 8 * rotCode o + regCode r]) ∧
  (∀ o, encode (.rotMem o) = [0xCB, 8 * rotCode o + 6]) ∧
  (∀ b r, encode (.bitReg b r) = [0xCB, 0x40 + 8 * bitCode b + regCode r]) ∧
  (∀ b, encode (.bitMem b) = [0xCB, 0x46 + 8 * bitCode b]) ∧
  (∀ b r, encode (.resReg b r) = [0xCB, 0x80 + 8 * bitCode b + regCode r]) ∧
  (∀ b, encode (.resMem b) = [0xCB, 0x86 + 8 * bitCode b]) ∧
  (∀ b r, encode (.setReg b r) = [0xCB, 0xC0 + 8 * bitCode b + regCode r]) ∧
  (∀ b, encode (.setMem b) = [0xCB, 0xC6 + 8 * bitCode b])

/-! ## Running -/

/-- A step of a running core whose bytes at PC decode to `i` is `exec i` in the state after the fetch,
then HandleInterrupts.  The fetch moves PC past the instruction, costs 4 ticks for each byte it reads and
leaves all else, the Peripherals apart (R201, R1020).  Under the halt bug the byte after the opcode is the
opcode again: the instruction is what the opcode byte `op` followed by the bytes from PC on decodes to, and
PC ends one lower (R806).  The model's choices: the fetch keeps the opcode's address in `opAddr` (log 13),
and the ticks of a step count from zero (log 14), so the count of `s` is not among the things kept. -/
def Obligations.StepRunsDecodedInstruction : Prop :=
  ∀ s : State,
    s.fault = none → s.cart.variant ≠ .absent → s.halted = false → s.stopped = false →
    (s.haltBug = false → ∀ (bs : List Byte) (i : Instr),
      decode bs = .ok (i, []) → BytesAt s s.pc bs →
      ∃ u, step s = thenHandle (exec i u) ∧
        u.pc = s.pc + BitVec.ofNat 16 (instrLength i) ∧ u.opAddr = s.pc ∧
        Keeps [] s u ∧ u.f = s.f ∧ u.sp = s.sp ∧
        Waits (fetchCycles i) { s with ticks := 0 } { u with opAddr := s.opAddr }) ∧
    (s.haltBug = true → ∀ (op : Byte) (bs : List Byte) (i : Instr),
      decode (op :: bs) = .ok (i, []) → BytesAt s s.pc [op] → BytesAt s s.pc bs →
      ∃ u, step s = thenHandle (exec i u) ∧
        u.pc = s.pc + BitVec.ofNat 16 (instrLength i) - 1 ∧ u.haltBug = false ∧ u.opAddr = s.pc ∧
        Keeps [] s u ∧ u.f = s.f ∧ u.sp = s.sp ∧
        Waits (fetchCycles i) { s with ticks := 0 } { u with haltBug := true, opAddr := s.opAddr })

/-- FetchOpcode reads at PC in one M-cycle and advances PC, unless the halt bug holds it once; only it
uses the bug up, and FetchByte always advances (R806).  That the opcode's address stays in `opAddr` is the
model's choice (log 13). -/
def Obligations.FetchOpcodeAndHaltBug : Prop :=
  ∀ s : State,
    ((fetchOpcode s).1 = busByte (accessCycle s) s.pc ∧
      (fetchOpcode s).2.haltBug = false ∧
      (fetchOpcode s).2.pc = (if s.haltBug then s.pc else s.pc + 1) ∧
      (fetchOpcode s).2.opAddr = s.pc ∧
      Keeps [] s (fetchOpcode s).2 ∧ (fetchOpcode s).2.f = s.f ∧ (fetchOpcode s).2.sp = s.sp ∧
      Waits 1 s { (fetchOpcode s).2 with haltBug := s.haltBug, opAddr := s.opAddr }) ∧
    ((fetchByte s).1 = busByte (accessCycle s) s.pc ∧ (fetchByte s).2.pc = s.pc + 1 ∧
      Keeps [] s (fetchByte s).2 ∧ (fetchByte s).2.f = s.f ∧ (fetchByte s).2.sp = s.sp ∧
      Waits 1 s (fetchByte s).2)

/-- Under the halt bug a 0xCB is read again as its own second byte: the CPU runs CB 0xCB, SET 1,E, with
PC one past the 0xCB (R806, R808). -/
def Obligations.HaltBugReadsPrefixTwice : Prop :=
  ∀ s : State, s.haltBug = true → periphOwned s.pc = false → busByte s s.pc = 0xCB →
    (fetchInstr s).1 = .set_1_e ∧ (fetchInstr s).2.pc = s.pc + 1 ∧
      (fetchInstr s).2.haltBug = false

/-- In the fault state no step, reset or load changes anything, and a raised fault is there to stay
(R900, R1000).  That the 0 ticks a step returns stand in the field `ticks` is the model's choice (log 14),
and that a load changes nothing is deduced from R900 (log 22). -/
def Obligations.FaultStateIsTerminal : Prop :=
  ∀ (s : State) (r : Fault),
    raiseFatal s r = { s with fault := some r } ∧
    (s.fault ≠ none →
      clockCpu s = .next s ∧ handleInterrupts s = s ∧ step s = .next { s with ticks := 0 } ∧
      hostReset s = s ∧ ∀ img save, loadCartridge s img save = s)

/-- A halted or stopped CPU reads at PC once, in one M-cycle, and does nothing else (R802). -/
def Obligations.IdleCycleReadsOnce : Prop :=
  ∀ s : State, s.fault = none → s.halted = true ∨ s.stopped = true →
    ∃ t, clockCpu s = .next t ∧ t = (memRead s s.pc).2 ∧ SameRegs s t ∧ Waits 1 s t

/-- A step always answers a next state once a cartridge is loaded, and is refused by name only before
that (log 1) (R903, R1021). -/
def Obligations.StepAlwaysAnswersNext : Prop :=
  ∀ s : State,
    (s.fault ≠ none ∨ s.cart.variant ≠ .absent → ∃ t, step s = .next t) ∧
    (s.fault = none → s.cart.variant = .absent → step s = .refused .noCartridge)

/-- The only way a step enters the fault state is to fetch one of the eleven illegal bytes, and the
record names that byte and the address it was fetched from (R807, R901, R903). -/
def Obligations.OnlyIllegalBytesFault : Prop :=
  ∀ s t : State, s.fault = none → step s = .next t → t.fault ≠ none →
    ∃ k, t.fault = some (.illegalOpcode (illegalByte k) s.pc) ∧
      (fetchInstr { s with ticks := 0 }).1 = .illegal k ∧
      (periphOwned s.pc = false → busByte s s.pc = illegalByte k)

/-- The final state is final: in no number of steps does a register, hidden state, IE, the cartridge or a
byte that is not the Peripherals' change again (R1022 (a)). -/
def Obligations.FinalIsForever : Prop :=
  ∀ (n : Nat) (s t : State), Inv s → Final s → Host.Core.run Sys2Proof.core n s = .next t →
    Final t ∧ SameRegs s t ∧ SameHidden s t ∧ t.ie = s.ie ∧ t.cart = s.cart ∧
      ∀ x, periphOwned x = false → busByte t x = busByte s x

/-- A step returns a multiple of 4 ticks, from 4 to 44: those of its instruction or of the idle cycle, and
20 if it dispatches (`d = 1`).  The Peripherals receive as many under PER_MCYCLE, and under PER_ACCESS
exactly 4 fewer for each Internal M-cycle, three of which are a dispatch's (R1021, R1039, R921).  In the
fault state it returns 0 and delivers none (R900).  The fields that count are the model's choice: `ticks`
(log 14) and `clocks`, the `Clock(4)` calls delivered (log 4); the policy stays open (log 3). -/
def Obligations.TicksOfStep : Prop :=
  ∀ s t : State, step s = .next t →
    (s.fault = none →
      4 ∣ t.ticks ∧ 4 ≤ t.ticks ∧ t.ticks ≤ 44 ∧
      let waiting := s.halted || s.stopped
      let op := busByte (accessCycle s) s.pc
      ∃ d ≤ 1, ∃ n,
        t.ticks = (if waiting then 4 else totalTicks op n s.f) + 20 * d ∧
        4 * (t.clocks + silent ((if waiting then 0 else internalCycles op s.f) + 3 * d)) =
          4 * s.clocks + t.ticks) ∧
    (s.fault ≠ none → t.ticks = 0 ∧ t.clocks = s.clocks)

/-- Every opcode costs what the maps of R210 and R211 say, its fetch included, and delivers a `Clock(4)`
in each of its M-cycles, the Internal ones only under PER_MCYCLE (R940).  The counters are the model's:
`ticks` (log 14) and `clocks` (log 4). -/
def Obligations.CycleCosts : Prop :=
  ∀ (op n1 n2 : Byte) (s : State), ∃ t, exec (assemble op n1 n2) s = .next t ∧
    4 * fetchCycles (assemble op n1 n2) + t.ticks = s.ticks + totalTicks op n1 s.f ∧
    4 * (fetchCycles (assemble op n1 n2) + t.clocks + silent (internalCycles op s.f)) =
      4 * s.clocks + totalTicks op n1 s.f

/-- The writers of the hidden state among the instructions (R60): IME only DI, the deferred enable only EI
and RETI, halted and the halt bug only HALT, stopped only STOP, the fault only the illegal bytes. -/
def Obligations.HiddenStateWriters : Prop :=
  ∀ (i : Instr) (s t : State), exec i s = .next t →
    (t.ime ≠ s.ime → i = .di) ∧
    (t.eiPending ≠ s.eiPending → i = .ei ∨ i = .reti) ∧
    (t.halted ≠ s.halted → i = .halt) ∧
    (t.haltBug ≠ s.haltBug → i = .halt) ∧
    (t.stopped ≠ s.stopped → i = .stop) ∧
    (t.fault ≠ s.fault → ∃ k, i = .illegal k)

/-- An instruction that reads no flag does the same whatever the flags hold: in two states that differ in
F alone, all but F comes out the same (R56).  The two runs take the same free values (log 4). -/
def Obligations.FlagsReachOnlyTheirReaders : Prop :=
  ∀ (i : Instr) (s : State) (g : Flags), readsFlags i = false →
    ∃ t u, exec i s = .next t ∧ exec i { s with f := g } = .next u ∧ { u with f := t.f } = t

/-- No step changes a ROM byte, the image's or the RAM's length, or the variant (R102, R140, R142). -/
def Obligations.RomAndVariantNeverChange : Prop :=
  ∀ s t : State, step s = .next t →
    t.cart.rom = s.cart.rom ∧ t.cart.romLen = s.cart.romLen ∧ t.cart.ramLen = s.cart.ramLen ∧
      t.cart.variant = s.cart.variant

/-! ## The invariant -/

/-- The reset state meets the invariant.  Its registers, hidden state and memory are the spec's (R61, R66,
R67); its cartridge is the model's choice (log 1), none loaded, since R67 leaves the cartridge unchanged by
reset and set at load, and so are the byte lists the invariant speaks of (logs 10 and 11). -/
def Obligations.ResetMeetsInv : Prop := Inv State.reset

/-- Every step keeps the invariant.  The byte lists it speaks of, their homes and their form, are the model's
way of holding memory (logs 10 and 11). -/
def Obligations.StepKeepsInv : Prop := ∀ s t : State, Inv s → step s = .next t → Inv t

/-- Loading a cartridge from a well-formed image, and a reset, keep the invariant (R1000, R1010).  The byte
lists are the model's way of holding memory and an image (logs 10 and 11). -/
def Obligations.LoadAndResetKeepInv : Prop :=
  ∀ s : State, Inv s → Inv (hostReset s) ∧
    ∀ (img : Image) (save : List Byte), Memory.wf zeroByte img.bytes →
      Memory.within (fun a => decide (a < img.len)) img.bytes → Inv (loadCartridge s img save)

/-! ## Host -/

/-- What Reset leaves: the registers and hidden state of R67, the power-up bytes of R66 over a zeroed array,
and the cartridge as it was (R1000, R1001, R1002); no tick (R1000).  The counters of ticks and of delivered
clocks are the model's (logs 14 and 4), and so is the reset state without a cartridge (log 1), which is
what Reset leaves of it. -/
def Obligations.ResetValues : Prop :=
  hostReset State.reset = State.reset ∧
  ∀ s : State, s.fault = none →
    regAF (hostReset s) = 0x01B0 ∧ regBC (hostReset s) = 0x0013 ∧ regDE (hostReset s) = 0x00D8 ∧
    regHL (hostReset s) = 0x014D ∧ (hostReset s).sp = 0xFFFE ∧ (hostReset s).pc = 0x0100 ∧
    (hostReset s).ime = false ∧ (hostReset s).eiPending = false ∧ (hostReset s).halted = false ∧
    (hostReset s).haltBug = false ∧ (hostReset s).stopped = false ∧ (hostReset s).fault = none ∧
    (hostReset s).cart = s.cart ∧ (hostReset s).ticks = s.ticks ∧
    (hostReset s).clocks = s.clocks ∧
    ∀ x : Word, 0x8000 ≤ x.toNat → inExternal x = false → flatRead (hostReset s) x = powerUpByte x

/-- LoadCartridge: an image of an unknown type or over 8MB puts the core in the fault state and changes
nothing else; any other builds the cartridge of R140, R141 and R142 at the load values of R160 (R902,
R1010).  That a cartridge also holds, at the same values, the banking fields of the variants it is not is
the model's choice (log 23).  Its external RAM is SaveRamIsCopiedIn's. -/
def Obligations.LoadCartridgeOutcome : Prop :=
  ∀ (s : State) (img : Image) (save : List Byte), s.fault = none →
    let type := (imageByte img 0x0147).toNat
    let k := (loadCartridge s img save).cart
    (img.len > 0x800000 ∨ type ∉ [0x00, 0x01, 0x02, 0x03, 0x0F, 0x10, 0x11, 0x12, 0x13] →
      loadCartridge s img save =
        { s with fault := some (.unsupportedCartridge (imageByte img 0x0147) img.len) }) ∧
    (img.len ≤ 0x800000 → type ∈ [0x00, 0x01, 0x02, 0x03, 0x0F, 0x10, 0x11, 0x12, 0x13] →
      loadCartridge s img save = { s with cart := k } ∧
      k.variant = (if type = 0 then .noBanking else if type ≤ 3 then .mbc1 else .mbc3) ∧
      k.romLen = img.len ∧ k.rom = img.bytes ∧
      k.ramLen = (if type = 0 then 0
        else [0, 0x800, 0x2000, 0x8000, 0x20000, 0x10000].getD (imageByte img 0x0149).toNat 0) ∧
      k.ramEnabled = false ∧ k.romLow = 1 ∧ k.romHigh = 0 ∧ k.ramBank = 0 ∧ k.mode = 0 ∧
      k.romBank7 = 1 ∧ k.select = 0 ∧ k.rtc = rtcZero)

/-- The external RAM that a load leaves in the state: the save bytes that fit, zero after them (R161,
R1010). -/
def Obligations.SaveRamIsCopiedIn : Prop :=
  ∀ (s : State) (img : Image) (save : List Byte) (off : Nat),
    s.fault = none → (loadCartridge s img save).fault = none →
    Memory.read zeroByte (loadCartridge s img save).cart.eram off =
      if off < (loadCartridge s img save).cart.ramLen then save.getD off 0 else 0

/-! ## Interrupts -/

/-- HandleInterrupts (R920): nothing in the fault state; nothing while stopped without a joypad request;
else the stop ends, a pending enabled interrupt wakes a halted CPU past its HALT, the lowest one is
dispatched if IME is set, in 20 ticks, and without a dispatch the deferred enable is spent, in none. -/
def Obligations.HandleInterruptsDecision : Prop :=
  ∀ s : State,
    (s.fault ≠ none → handleInterrupts s = s) ∧
    (s.fault = none → s.stopped = true → s.iflag.getLsbD 4 = false → handleInterrupts s = s) ∧
    (s.fault = none → s.stopped = false ∨ s.iflag.getLsbD 4 = true →
      let pend := s.ie &&& s.iflag &&& 0x1F
      let woken := { s with stopped := false, halted := false,
                            pc := if s.halted then s.pc + 1 else s.pc }
      (pend = 0 → handleInterrupts s =
        { s with stopped := false, ime := s.ime || s.eiPending, eiPending := false }) ∧
      (pend ≠ 0 → s.ime = true →
        ∃ k, IsLowest pend k ∧ handleInterrupts s = dispatch woken k ∧
          (handleInterrupts s).ticks = s.ticks + 20) ∧
      (pend ≠ 0 → s.ime = false →
        handleInterrupts s = { woken with ime := s.eiPending, eiPending := false }))

/-- Dispatch (R921): two internal M-cycles, PC pushed high byte first, one internal M-cycle; then IF bit k
is cleared from what IF holds after the pushes and PC is the vector 0x40 + 8 * k; IME and the deferred
enable are off; nothing else of the CPU changes, and no byte but the two pushed ones. -/
def Obligations.DispatchSavesPcAndEntersVector : Prop :=
  ∀ (s : State) (k : Fin 5), ∃ u,
    PushesWord (internal (internal { s with ime := false, eiPending := false })) u s.pc ∧
    dispatch s k = { internal u with
      iflag := (dispatch s k).iflag, pc := BitVec.ofNat 16 (0x40 + 8 * k.val) } ∧
    (∀ j, (dispatch s k).iflag.getLsbD j = ((internal u).iflag.getLsbD j && decide (j ≠ k.val))) ∧
    (dispatch s k).ime = false ∧ (dispatch s k).eiPending = false ∧
    (dispatch s k).sp = s.sp - 2 ∧ Keeps [] s (dispatch s k) ∧ (dispatch s k).f = s.f ∧
    (dispatch s k).halted = s.halted ∧ (dispatch s k).haltBug = s.haltBug ∧
    (dispatch s k).stopped = s.stopped ∧ (dispatch s k).fault = s.fault ∧
    (dispatch s k).ticks = s.ticks + 20 ∧
    ∀ x, periphOwned x = false → storeReach (s.sp - 1) x = false →
      storeReach (s.sp - 2) x = false → busByte (dispatch s k) x = busByte s x

/-- EI enables interrupts only after its own step's decision: even with an enabled interrupt pending, the
HandleInterrupts of EI's step dispatches nothing and then sets IME (R805, R922). -/
def Obligations.EiTakesEffectAfterItsStep : Prop :=
  ∀ s : State, s.fault = none → s.stopped = false → s.halted = false → s.ime = false →
    ∃ t, exec .ei s = .next t ∧ handleInterrupts t = { s with ime := true, eiPending := false }

/-! ## Memory and cartridge -/

/-- What a bus read gives where no banking is involved (R101): in the ROM window 0x0000-0x3FFF the image's
byte, 0xFF past its end (R141, R143); in the audio range the free value of the model's counter `draws`
(R104, log 5); at every other flat-array address, 0xFF4D apart, the array's byte, which is IE at 0xFFFF
and IF at 0xFF0F.  A store to the array is read back over the bus at once (R102). -/
def Obligations.BusReadsRomAndFlatArray : Prop :=
  ∀ (s : State) (a : Word) (v : Byte),
    (a.toNat < 0x4000 → busByte s a =
      if a.toNat < s.cart.romLen then Memory.read zeroByte s.cart.rom a.toNat else 0xFF) ∧
    (0xFF10 ≤ a.toNat → a.toNat ≤ 0xFF3F → busByte s a = Config.periphRead s.draws a) ∧
    (0x8000 ≤ a.toNat → inExternal a = false → Config.isAudio a.toNat = false → a ≠ 0xFF4D →
      busByte s a = flatRead s a) ∧
    busByte s 0xFFFF = s.ie ∧ busByte s 0xFF0F = s.iflag ∧
    (storesFlat a = true → a ≠ 0xFF4D →
      busByte (busWrite s a v) a = v ∧ busByte (memWrite s a v) a = v)

/-- 0xFF4D always reads 0xFF (R103); a store to 0xFF46 is the DMA start, and 0xFF46 reads 0x00 in every
state of the invariant, which is the spec's own inference ("derived: from rules R101, R102 and 60_exceptions.md
rule R941", R105); a store changes neither reading. -/
def Obligations.ConstantRegistersRead : Prop :=
  ∀ (s : State) (v : Byte),
    busByte s 0xFF4D = 0xFF ∧ busByte (busWrite s 0xFF4D v) 0xFF4D = 0xFF ∧
    flatRead (busWrite s 0xFF4D v) 0xFF4D = v ∧ busWrite s 0xFF46 v = oamDma s v ∧
    (Inv s → busByte s 0xFF46 = 0x00 ∧ busByte (busWrite s 0xFF46 v) 0xFF46 = 0x00)

/-- The store that starts OAM DMA copies all 160 bytes of its page inside its own M-cycle, stores nothing
at 0xFF46 and changes no other byte; a page of OAM itself changes nothing (R120, R121). -/
def Obligations.OamDmaStoreCopiesThePage : Prop :=
  ∀ s : State, ∃ t, exec (.ldh_at8_a 0x46) s = .next t ∧
    (∀ i < 160, periphOwned (mkWord s.a 0 + BitVec.ofNat 16 i) = false →
      busByte t (0xFE00 + BitVec.ofNat 16 i) = busByte s (mkWord s.a 0 + BitVec.ofNat 16 i)) ∧
    (∀ x, periphOwned x = false → x.toNat < 0xFE00 ∨ 0xFEA0 ≤ x.toNat →
      busByte t x = busByte s x) ∧
    (s.a = 0xFE → ∀ x, periphOwned x = false → busByte t x = busByte s x) ∧
    t.ticks = s.ticks + 4 ∧ t.cart = s.cart ∧ SameRegs s t ∧ SameHidden s t

/-- The MBC1's control writes (R147 to R150) and the bank its upper window shows: the two fields
combined, one added when the low five bits are zero, reduced modulo the banks of the image (R141, R144,
R151).  Which values besides 0x0A enable RAM stays open, an opaque constant of the model (log 7). -/
def Obligations.Mbc1BankingFollowsTheFields : Prop :=
  ∀ (s : State) (a : Word) (v : Byte), s.cart.variant = .mbc1 →
    (a.toNat < 0x2000 → (busWrite s a v).cart = { s.cart with
      ramEnabled := decide (v = 0x0A) ||
        (decide (v.toNat % 16 = 0x0A) && Config.ramEnableLowNibble) }) ∧
    (0x2000 ≤ a.toNat → a.toNat < 0x4000 →
      (busWrite s a v).cart = { s.cart with romLow := BitVec.ofNat 5 (v.toNat % 32) }) ∧
    (0x4000 ≤ a.toNat → a.toNat < 0x6000 → s.cart.mode = 0 →
      (busWrite s a v).cart = { s.cart with romHigh := BitVec.ofNat 2 (v.toNat % 4) }) ∧
    (0x4000 ≤ a.toNat → a.toNat < 0x6000 → s.cart.mode = 1 →
      (busWrite s a v).cart = { s.cart with ramBank := BitVec.ofNat 2 (v.toNat % 4) }) ∧
    (0x6000 ≤ a.toNat → a.toNat < 0x8000 →
      (busWrite s a v).cart = { s.cart with mode := BitVec.ofNat 1 (v.toNat % 2) }) ∧
    (0x4000 ≤ a.toNat → a.toNat < 0x8000 →
      let c := 32 * s.cart.romHigh.toNat + s.cart.romLow.toNat
      busByte s a = windowByte s.cart (if c % 32 = 0 then c + 1 else c) a.toNat)

/-- The MBC3's control writes (R153 to R156), and the bank its upper window shows (R141, R144).  The time
latched is the free value of the model's counter `draws`, which each latch advances (log 6), and which
values besides 0x0A enable RAM stays open (log 7). -/
def Obligations.Mbc3BankingFollowsTheFields : Prop :=
  ∀ (s : State) (a : Word) (v : Byte), s.cart.variant = .mbc3 →
    (a.toNat < 0x2000 → (busWrite s a v).cart = { s.cart with
      ramEnabled := decide (v = 0x0A) ||
        (decide (v.toNat % 16 = 0x0A) && Config.ramEnableLowNibble) }) ∧
    (0x2000 ≤ a.toNat → a.toNat < 0x4000 → (busWrite s a v).cart =
      { s.cart with romBank7 := BitVec.ofNat 7 (max 1 (v.toNat % 128)) }) ∧
    (0x4000 ≤ a.toNat → a.toNat < 0x6000 →
      (busWrite s a v).cart = { s.cart with select := v }) ∧
    (0x6000 ≤ a.toNat → a.toNat < 0x8000 →
      (busWrite s a v).cart = { s.cart with rtc := Config.rtcNow s.draws } ∧
        (busWrite s a v).draws = s.draws + 1) ∧
    (0x4000 ≤ a.toNat → a.toNat < 0x8000 →
      busByte s a = windowByte s.cart s.cart.romBank7.toNat a.toNat)

/-- The external window (R145, R152, R157): while it is disabled a read gives 0xFF and a store changes
nothing; with RAM behind it, a store of `v` reads back as `v`, at the offset of its bank modulo the RAM's
length; with an RTC register selected, the register is read back; and with nothing selected, 0xFF (R159). -/
def Obligations.ExternalWindowRoundTrip : Prop :=
  ∀ (s : State) (a : Word) (v : Byte), inExternal a = true →
    let bank := if s.cart.variant = .mbc1 then s.cart.ramBank.toNat else s.cart.select.toNat
    (s.cart.ramEnabled = false → busByte s a = 0xFF ∧ busWrite s a v = s) ∧
    (s.cart.ramEnabled = true → s.cart.ramLen > 0 →
      s.cart.variant = .mbc1 ∨ (s.cart.variant = .mbc3 ∧ s.cart.select.toNat ≤ 3) →
      busByte (busWrite s a v) a = v ∧
      busByte s a =
        Memory.read zeroByte s.cart.eram ((0x2000 * bank + a.toNat % 0x2000) % s.cart.ramLen)) ∧
    (s.cart.ramEnabled = true → s.cart.ramLen = 0 →
      s.cart.variant = .mbc1 ∨ (s.cart.variant = .mbc3 ∧ s.cart.select.toNat ≤ 3) →
      busByte s a = 0xFF ∧ busWrite s a v = s) ∧
    (s.cart.ramEnabled = true → s.cart.variant = .mbc3 → 8 ≤ s.cart.select.toNat →
      s.cart.select.toNat ≤ 12 →
      busByte (busWrite s a v) a = v ∧
      busByte s a = [s.cart.rtc.seconds, s.cart.rtc.minutes, s.cart.rtc.hours, s.cart.rtc.dayLow,
        s.cart.rtc.dayHigh].getD (s.cart.select.toNat - 8) 0) ∧
    (s.cart.ramEnabled = true → s.cart.variant = .mbc3 →
      (3 < s.cart.select.toNat ∧ s.cart.select.toNat < 8) ∨ 12 < s.cart.select.toNat →
      busByte s a = 0xFF ∧ busWrite s a v = s)

/-- A cartridge without a banking controller ignores every control write (R146), is loaded with RAM off
(R160), has an external window that reads 0xFF and ignores stores (R145), and shows bank 1 of its image,
reduced modulo its banks, in the upper window (R141, R144). -/
def Obligations.NoBankingIgnoresControl : Prop :=
  (∀ img save, (loadedCart .noBanking img save).ramEnabled = false) ∧
  ∀ (s : State) (a : Word) (v : Byte), s.cart.variant = .noBanking →
    (busWrite s a v).cart = s.cart ∧
    (inExternal a = true → busByte s a = 0xFF ∧ busWrite s a v = s) ∧
    (0x4000 ≤ a.toNat → a.toNat < 0x8000 → busByte s a = windowByte s.cart 1 a.toNat)

/-! ## Loads -/

/-- LD r,r' (R300). -/
def Obligations.LoadRegisterFromRegister : Prop :=
  ∀ (q r : Reg8) (s : State), ∃ t, exec (.ldRegReg q r) s = .next t ∧
    r8 t q = r8 s r ∧ Keeps [q] s t ∧ t.f = s.f ∧ t.sp = s.sp ∧ t.pc = s.pc ∧ RegsOnly s t

/-- LD r,n (R301) and LD rr,nn (R320); a pair's high register takes the high byte (R52). -/
def Obligations.LoadImmediates : Prop :=
  (∀ (q : Reg8) (n : Byte) (s : State), ∃ t, exec (.ldRegImm q n) s = .next t ∧
    r8 t q = n ∧ Keeps [q] s t ∧ t.f = s.f ∧ t.sp = s.sp ∧ t.pc = s.pc ∧ RegsOnly s t) ∧
  ∀ (p : Reg16) (nn : Word) (s : State), ∃ t, exec (.ldPairImm p nn) s = .next t ∧
    r16 t p = nn ∧ PairHolds t p nn ∧ Keeps (halves p) s t ∧ (p ≠ .sp → t.sp = s.sp) ∧ t.f = s.f ∧
    t.pc = s.pc ∧ RegsOnly s t

/-- The loads of a register from memory: (HL), (BC), (DE), (nn), the high page at C and at n (R302, R305,
R306, R309, R311, R313). -/
def Obligations.LoadsFromMemory : Prop :=
  ∀ (s : State) (q : Reg8) (n : Byte) (nn : Word),
    LoadsFrom (.ldRegMem q) s q (regHL s) ∧
    LoadsFrom .ld_a_atBC s .a (regBC s) ∧
    LoadsFrom .ld_a_atDE s .a (regDE s) ∧
    LoadsFrom (.ld_a_at16 nn) s .a nn ∧
    LoadsFrom .ldh_a_atC s .a (BitVec.ofNat 16 (0xFF00 + s.c.toNat)) ∧
    LoadsFrom (.ldh_a_at8 n) s .a (BitVec.ofNat 16 (0xFF00 + n.toNat))

/-- The stores of one byte: (HL) from a register and from n, (BC), (DE), (nn), the high page at C and at n
(R303, R304, R307, R308, R310, R312, R314). -/
def Obligations.StoresOfOneByte : Prop :=
  ∀ (s : State) (r : Reg8) (n : Byte) (nn : Word),
    StoresTo (.ldMemReg r) s (regHL s) (r8 s r) ∧
    StoresTo (.ld_atHL_d8 n) s (regHL s) n ∧
    StoresTo .ld_atBC_a s (regBC s) s.a ∧
    StoresTo .ld_atDE_a s (regDE s) s.a ∧
    StoresTo (.ld_at16_a nn) s nn s.a ∧
    StoresTo .ldh_atC_a s (BitVec.ofNat 16 (0xFF00 + s.c.toNat)) s.a ∧
    StoresTo (.ldh_at8_a n) s (BitVec.ofNat 16 (0xFF00 + n.toNat)) s.a

/-- LD A,(HL+), LD A,(HL-), LD (HL+),A and LD (HL-),A: the access at the old HL, then HL moved by one
(R315 to R318). -/
def Obligations.LoadsAndStoresThatStepHL : Prop :=
  ∀ (s : State), ∀ c ∈ [(Instr.ld_a_atHLI, Instr.ld_atHLI_a, (1 : Int)),
      (.ld_a_atHLD, .ld_atHLD_a, -1)],
    (∃ t, exec c.1 s = .next t ∧ t.a = busByte (accessCycle s) (regHL s) ∧
      regHL t = BitVec.ofInt 16 ((regHL s).toNat + c.2.2) ∧ Keeps [.a, .h, .l] s t ∧ t.f = s.f ∧
      t.sp = s.sp ∧ t.pc = s.pc ∧ Waits 1 s t) ∧
    (∃ m t, exec c.2.1 s = .next t ∧ StoreCycle s m (regHL s) s.a ∧
      regHL t = BitVec.ofInt 16 ((regHL s).toNat + c.2.2) ∧ Keeps [.h, .l] m t ∧ t.f = m.f ∧
      t.sp = m.sp ∧ t.pc = m.pc ∧ RegsOnly m t)

/-- LD (nn),SP: the low byte at nn, then the high byte at nn + 1 (R321). -/
def Obligations.StoreStackPointer : Prop :=
  ∀ (s : State) (nn : Word), ∃ m t, exec (.ld_at16_sp nn) s = .next t ∧
    StoreCycle s m nn (lowByte s.sp) ∧ StoreCycle m t (nn + 1) (highByte s.sp)

/-- LD SP,HL, LD HL,SP+e and ADD SP,e (R322, R332, R503). -/
def Obligations.StackPointerArithmetic : Prop :=
  ∀ (s : State) (e : Byte),
    (∃ t, exec .ld_sp_hl s = .next t ∧ t.sp = regHL s ∧ Keeps [] s t ∧ t.f = s.f ∧ t.pc = s.pc ∧
      Waits 1 s t) ∧
    (∃ t, exec (.ld_hl_sp_r8 e) s = .next t ∧ regHL t = displaced s.sp e ∧ t.f = offsetSpec s.sp e ∧
      Keeps [.h, .l] s t ∧ t.sp = s.sp ∧ t.pc = s.pc ∧ Waits 1 s t) ∧
    (∃ t, exec (.add_sp_r8 e) s = .next t ∧ t.sp = displaced s.sp e ∧ t.f = offsetSpec s.sp e ∧
      Keeps [] s t ∧ t.pc = s.pc ∧ Waits 2 s t)

/-- PUSH rr: one internal M-cycle, then the high byte at SP-1 and the low byte at SP-2: the two registers of
the pair, and for AF the byte A and the byte that shows Z, N, H and C in bits 7 to 4 over a zero nibble; no
other byte changes (R51, R52, R55, R330). -/
def Obligations.PushStoresThePair : Prop :=
  ∀ (s : State) (p : StkReg), ∃ t, exec (.push p) s = .next t ∧
    PushesWord (internal s) t (stk16 s p) ∧
    PushedBytes s p (highByte (stk16 s p)) (lowByte (stk16 s p)) ∧
    t.sp = s.sp - 2 ∧ Keeps [] s t ∧ t.f = s.f ∧ t.pc = s.pc ∧ SameHidden s t ∧
    t.ticks = s.ticks + 12 ∧
    (∀ x, periphOwned x = false → storeReach (s.sp - 1) x = false →
      storeReach (s.sp - 2) x = false → busByte t x = busByte s x)

/-- POP rr: low byte at SP, high byte at SP+1, SP moved by 2; POP AF keeps bits 7 to 4 of the low byte as Z,
N, H and C, and only it writes flags (R331). -/
def Obligations.PopLoadsThePair : Prop :=
  ∀ (s : State) (p : StkReg), ∃ v t, exec (.pop p) s = .next t ∧ PopsValue s v ∧
    t.sp = s.sp + 2 ∧ Keeps (stkHalves p) s t ∧ t.pc = s.pc ∧ Waits 2 s t ∧
    (p ≠ .af → stk16 t p = v ∧ t.f = s.f) ∧ PoppedInto t p (highByte v) (lowByte v)

/-! ## Arithmetic and logic -/

/-- The 8-bit ALU with a register, an immediate, and the byte at HL (R400 to R423). -/
def Obligations.AluComputesResultAndFlags : Prop :=
  ∀ (o : AluOp) (r : Reg8) (n : Byte) (s : State),
    (∃ t, exec (.aluReg o r) s = .next t ∧ AluSpec o s.a (r8 s r) s.f.c t.a t.f ∧ Keeps [.a] s t ∧
      t.sp = s.sp ∧ t.pc = s.pc ∧ RegsOnly s t) ∧
    (∃ t, exec (.aluImm o n) s = .next t ∧ AluSpec o s.a n s.f.c t.a t.f ∧ Keeps [.a] s t ∧
      t.sp = s.sp ∧ t.pc = s.pc ∧ RegsOnly s t) ∧
    (∃ t, exec (.aluMem o) s = .next t ∧
      AluSpec o s.a (busByte (accessCycle s) (regHL s)) s.f.c t.a t.f ∧ Keeps [.a] s t ∧
      t.sp = s.sp ∧ t.pc = s.pc ∧ Waits 1 s t)

/-- INC r and DEC r: the carry flag is never affected (R424, R426). -/
def Obligations.IncDecRegister : Prop :=
  ∀ (r : Reg8) (s : State),
    (∃ t, exec (.incReg r) s = .next t ∧ (r8 t r).toNat = ((r8 s r).toNat + 1) % 256 ∧
      t.f = incSpec s.f (r8 s r) ∧ Keeps [r] s t ∧ t.sp = s.sp ∧ t.pc = s.pc ∧ RegsOnly s t) ∧
    (∃ t, exec (.decReg r) s = .next t ∧ (r8 t r).toNat = ((r8 s r).toNat + 255) % 256 ∧
      t.f = decSpec s.f (r8 s r) ∧ Keeps [r] s t ∧ t.sp = s.sp ∧ t.pc = s.pc ∧ RegsOnly s t)

/-- INC (HL) and DEC (HL): the byte is read, and written back one M-cycle later (R172, R425, R427). -/
def Obligations.IncDecMemory : Prop :=
  ∀ s : State,
    ReadsThenWrites .inc_atHL s (fun v w => w.toNat = (v.toNat + 1) % 256)
      (fun v _ => incSpec s.f v) ∧
    ReadsThenWrites .dec_atHL s (fun v w => w.toNat = (v.toNat + 255) % 256)
      (fun v _ => decSpec s.f v)

/-- DAA follows the algorithm of R428. -/
def Obligations.DaaAdjustsA : Prop :=
  ∀ s : State, ∃ t, exec .daa s = .next t ∧ t.a.toNat = (daaSpec s.a.toNat s.f).1 ∧
    t.f = { z := t.a == 0, n := s.f.n, h := false, c := (daaSpec s.a.toNat s.f).2 } ∧
    Keeps [.a] s t ∧ t.sp = s.sp ∧ t.pc = s.pc ∧ RegsOnly s t

/-- DAA after ADC or SBC of two packed decimal bytes gives the packed decimal sum or difference modulo
100, with the decimal carry or borrow in C (R403, R409, R428). -/
def Obligations.DaaGivesDecimalResults : Prop :=
  ∀ (s : State) (n : Byte), isBcd s.a = true → isBcd n = true →
    (∃ t u, exec (.adc_a_d8 n) s = .next t ∧ exec .daa t = .next u ∧ isBcd u.a = true ∧
      bcdValue u.a = (bcdValue s.a + bcdValue n + s.f.c.toNat) % 100 ∧
      u.f.c = decide (100 ≤ bcdValue s.a + bcdValue n + s.f.c.toNat)) ∧
    (∃ t u, exec (.sbc_a_d8 n) s = .next t ∧ exec .daa t = .next u ∧ isBcd u.a = true ∧
      bcdValue u.a = (bcdValue s.a + 200 - bcdValue n - s.f.c.toNat) % 100 ∧
      u.f.c = decide (bcdValue s.a < bcdValue n + s.f.c.toNat))

/-- CPL, SCF and CCF (R429 to R431). -/
def Obligations.ComplementAndCarryFlags : Prop :=
  ∀ s : State,
    (∃ t, exec .cpl s = .next t ∧ (∀ i < 8, t.a.getLsbD i = !s.a.getLsbD i) ∧
      t.f = { s.f with n := true, h := true } ∧ Keeps [.a] s t ∧ t.sp = s.sp ∧ t.pc = s.pc ∧
      RegsOnly s t) ∧
    SetsFlags .scf s { s.f with n := false, h := false, c := true } ∧
    SetsFlags .ccf s { s.f with n := false, h := false, c := !s.f.c }

/-- ADD HL,rr: the 16-bit sum, H at bit 11 and C at bit 15, Z kept; INC rr and DEC rr: the pair alone, no
flag (R500 to R502). -/
def Obligations.PairArithmetic : Prop :=
  ∀ (p : Reg16) (s : State),
    (∃ t, exec (.addHL p) s = .next t ∧
      (regHL t).toNat = ((regHL s).toNat + (r16 s p).toNat) % 65536 ∧
      t.f = { z := s.f.z, n := false,
              h := decide (4096 ≤ (regHL s).toNat % 4096 + (r16 s p).toNat % 4096),
              c := decide (65536 ≤ (regHL s).toNat + (r16 s p).toNat) } ∧
      Keeps [.h, .l] s t ∧ t.sp = s.sp ∧ t.pc = s.pc ∧ Waits 1 s t) ∧
    (∃ t, exec (.incPair p) s = .next t ∧ (r16 t p).toNat = ((r16 s p).toNat + 1) % 65536 ∧
      Keeps (halves p) s t ∧ (p ≠ .sp → t.sp = s.sp) ∧ t.f = s.f ∧ t.pc = s.pc ∧ Waits 1 s t) ∧
    (∃ t, exec (.decPair p) s = .next t ∧ (r16 t p).toNat = ((r16 s p).toNat + 65535) % 65536 ∧
      Keeps (halves p) s t ∧ (p ≠ .sp → t.sp = s.sp) ∧ t.f = s.f ∧ t.pc = s.pc ∧ Waits 1 s t)

/-! ## Rotates, shifts and bits -/

/-- The accumulator rotates, which always clear Z, and the CB rotates, shifts and SWAP on a register,
which set Z from the result; bit by bit as in R626 (R600 to R603, R627). -/
def Obligations.RotatesAndShiftsOfRegisters : Prop :=
  (∀ (s : State), ∀ c ∈ [(Instr.rlca, RotOp.rlc), (.rrca, .rrc), (.rla, .rl), (.rra, .rr)],
    ∃ t, exec c.1 s = .next t ∧ IsShift c.2 s.a s.f.c t.a ∧
      t.f = { z := false, n := false, h := false, c := shiftOut c.2 s.a } ∧
      Keeps [.a] s t ∧ t.sp = s.sp ∧ t.pc = s.pc ∧ RegsOnly s t) ∧
  ∀ (o : RotOp) (r : Reg8) (s : State), ∃ t, exec (.rotReg o r) s = .next t ∧
    IsShift o (r8 s r) s.f.c (r8 t r) ∧
    t.f = { z := r8 t r == 0, n := false, h := false, c := shiftOut o (r8 s r) } ∧
    Keeps [r] s t ∧ t.sp = s.sp ∧ t.pc = s.pc ∧ RegsOnly s t

/-- The CB rotates, shifts and SWAP on the byte at HL: read, then written back (R172, R626, R627). -/
def Obligations.RotatesAndShiftsOfMemory : Prop :=
  ∀ (o : RotOp) (s : State),
    ReadsThenWrites (.rotMem o) s (fun v w => IsShift o v s.f.c w)
      (fun v w => { z := w == 0, n := false, h := false, c := shiftOut o v })

/-- BIT b: Z is the complement of the bit, N cleared, H set, C kept; nothing is written (R620, R621). -/
def Obligations.BitTests : Prop :=
  ∀ (b : Fin 8) (r : Reg8) (s : State),
    SetsFlags (.bitReg b r) s { z := !(r8 s r).getLsbD b, n := false, h := true, c := s.f.c } ∧
    ∃ t, exec (.bitMem b) s = .next t ∧
      t.f = { z := !(busByte (accessCycle s) (regHL s)).getLsbD b, n := false, h := true,
              c := s.f.c } ∧
      Keeps [] s t ∧ t.sp = s.sp ∧ t.pc = s.pc ∧ Waits 1 s t

/-- RES b clears and SET b sets bit b and leaves the other seven, in a register or in the byte at HL; no
flag changes (R622 to R625). -/
def Obligations.BitsResetAndSet : Prop :=
  ∀ (b : Fin 8) (r : Reg8) (s : State),
    (∃ t, exec (.resReg b r) s = .next t ∧
      (∀ i < 8, (r8 t r).getLsbD i = ((r8 s r).getLsbD i && decide (i ≠ b.val))) ∧
      Keeps [r] s t ∧ t.f = s.f ∧ t.sp = s.sp ∧ t.pc = s.pc ∧ RegsOnly s t) ∧
    (∃ t, exec (.setReg b r) s = .next t ∧
      (∀ i < 8, (r8 t r).getLsbD i = ((r8 s r).getLsbD i || decide (i = b.val))) ∧
      Keeps [r] s t ∧ t.f = s.f ∧ t.sp = s.sp ∧ t.pc = s.pc ∧ RegsOnly s t) ∧
    ReadsThenWrites (.resMem b) s
      (fun v w => ∀ i < 8, w.getLsbD i = (v.getLsbD i && decide (i ≠ b.val))) (fun _ _ => s.f) ∧
    ReadsThenWrites (.setMem b) s
      (fun v w => ∀ i < 8, w.getLsbD i = (v.getLsbD i || decide (i = b.val))) (fun _ _ => s.f)

/-! ## Control transfer -/

/-- JP and JR: one internal M-cycle and the target when the jump is taken, nothing at all when its
condition is false; JP HL takes no further M-cycle.  PC is already the address of the next instruction
(R701 to R706). -/
def Obligations.JumpsSetPc : Prop :=
  ∀ (s : State) (k : Cond) (nn : Word) (e : Byte),
    (∃ t, exec (.jp_a16 nn) s = .next t ∧ JumpsAfter 1 s t nn s.sp) ∧
    (∃ t, exec .jp_hl s = .next t ∧ JumpsAfter 0 s t (regHL s) s.sp) ∧
    (∃ t, exec (.jr_r8 e) s = .next t ∧ JumpsAfter 1 s t (displaced s.pc e) s.sp) ∧
    (Taken s.f k →
      (∃ t, exec (.jpCond k nn) s = .next t ∧ JumpsAfter 1 s t nn s.sp) ∧
      (∃ t, exec (.jrCond k e) s = .next t ∧ JumpsAfter 1 s t (displaced s.pc e) s.sp)) ∧
    (¬ Taken s.f k → exec (.jpCond k nn) s = .next s ∧ exec (.jrCond k e) s = .next s)

/-- CALL and RST push the address of the next instruction and jump; a CALL whose condition is false does
nothing (R701, R707, R708, R712). -/
def Obligations.CallsPushTheReturnAddress : Prop :=
  ∀ (s : State) (k : Cond) (nn : Word) (y : Fin 8),
    Calls (.call_a16 nn) s nn ∧
    Calls (.rst y) s (BitVec.ofNat 16 (8 * y.val)) ∧
    (Taken s.f k → Calls (.callCond k nn) s nn) ∧
    (¬ Taken s.f k → exec (.callCond k nn) s = .next s)

/-- RET and RETI pop PC, with one internal M-cycle; RETI also schedules the deferred enable; RET cc takes
one internal M-cycle first, and nothing more when its condition is false (R701, R709 to R711). -/
def Obligations.ReturnsPopPc : Prop :=
  ∀ (s : State) (k : Cond),
    (∃ v t, exec .ret s = .next t ∧ PopsValue s v ∧ JumpsAfter 3 s t v (s.sp + 2)) ∧
    (∃ v t, exec .reti s = .next t ∧ PopsValue s v ∧ t.eiPending = true ∧
      JumpsAfter 3 s { t with eiPending := s.eiPending } v (s.sp + 2)) ∧
    (Taken s.f k → ∃ v t, exec (.retCond k) s = .next t ∧ PopsValue (internal s) v ∧
      JumpsAfter 4 s t v (s.sp + 2)) ∧
    (¬ Taken s.f k → ∃ t, exec (.retCond k) s = .next t ∧ JumpsAfter 1 s t s.pc s.sp)

/-! ## CPU control -/

/-- HALT: with IME off and an enabled interrupt pending the halt bug is set; otherwise the CPU halts with
PC back on the HALT opcode (R801). -/
def Obligations.HaltWaitsOrSetsHaltBug : Prop :=
  ∀ s : State,
    (s.ime = false ∧ s.ie &&& s.iflag &&& 0x1F ≠ 0 →
      exec .halt s = .next { s with haltBug := true }) ∧
    (¬(s.ime = false ∧ s.ie &&& s.iflag &&& 0x1F ≠ 0) →
      exec .halt s = .next { s with halted := true, pc := s.pc - 1 })

/-- NOP does nothing, STOP stops, DI clears IME at once, EI schedules the deferred enable (R800, R803 to
R805). -/
def Obligations.NopStopDiEi : Prop :=
  ∀ s : State,
    exec .nop s = .next s ∧
    exec .stop s = .next { s with stopped := true } ∧
    exec .di s = .next { s with ime := false } ∧
    exec .ei s = .next { s with eiPending := true }

/-- The eleven illegal bytes record the fatal fault with the byte and its address, and change nothing else
(R807, R901).  The address is what the fetch kept in the model's own field `opAddr`, which is the model's
choice (log 13); in a state no fetch has left, the field is whatever it is. -/
def Obligations.IllegalBytesRaiseTheFault : Prop :=
  ∀ (k : Fin 11) (s : State), exec (.illegal k) s =
    .next { s with fault := some (.illegalOpcode (illegalByte k) s.opAddr) }

/-- The prefix with its second byte does what the secondary table's instruction does: the fields of R207
and the map of R211 agree on all 256 (R808). -/
def Obligations.PrefixRunsTheSecondaryTable : Prop :=
  ∀ (n : Byte) (s : State), ∃ t, exec (.prefix_CB n) s = .next t ∧
    exec (secondaryInstr n) s = .next t
end

