-- ==== Sys2Proof/Laws/Memory.lean ====
section
/-! SUPPORT. Reads after writes, and that every memory operation keeps the canonical form. -/

namespace Sys2Proof.Laws

open Sys2Proof.Machine

variable (dflt : Nat → Byte)

theorem read_put_self (m : List Host.Cell) (a : Nat) (v : Byte) :
    Memory.read dflt (Memory.put m a v) a = v := by
  induction m with
  | nil => simp [Memory.put, Memory.read]
  | cons cell m ih =>
    simp only [Memory.put]
    split_ifs with h1 h2
    · simp [Memory.read]
    · simp [Memory.read]
    · simp [Memory.read, Ne.symm h2, ih]

theorem read_put_other (m : List Host.Cell) (a x : Nat) (v : Byte) (h : x ≠ a) :
    Memory.read dflt (Memory.put m a v) x = Memory.read dflt m x := by
  induction m with
  | nil => simp [Memory.put, Memory.read, Ne.symm h]
  | cons cell m ih =>
    simp only [Memory.put]
    split_ifs with h1 h2
    · simp [Memory.read, Ne.symm h]
    · simp [Memory.read, Ne.symm h, ← h2]
    · simp [Memory.read, ih]

theorem read_drop_self (m : List Host.Cell) (a : Nat) :
    Memory.read dflt (Memory.drop m a) a = dflt a := by
  induction m with
  | nil => rfl
  | cons cell m ih =>
    by_cases h : cell.1 = a
    · simpa [Memory.drop, h] using ih
    · simpa [Memory.drop, Memory.read, h] using ih

theorem read_drop_other (m : List Host.Cell) (a x : Nat) (h : x ≠ a) :
    Memory.read dflt (Memory.drop m a) x = Memory.read dflt m x := by
  induction m with
  | nil => rfl
  | cons cell m ih =>
    by_cases hc : cell.1 = a
    · have : cell.1 ≠ x := fun e => h (e.symm.trans hc)
      simpa [Memory.drop, Memory.read, hc, this, Ne.symm h] using ih
    · by_cases hx : cell.1 = x
      · simp [Memory.drop, Memory.read, hx, h]
      · simpa [Memory.drop, Memory.read, hc, hx] using ih

/-- A read of the address just written gives the byte written. -/
theorem read_write_self (m : List Host.Cell) (a : Nat) (v : Byte) :
    Memory.read dflt (Memory.write dflt m a v) a = v := by
  unfold Memory.write
  split_ifs with h
  · rw [read_drop_self, h]
  · exact read_put_self dflt m a v

/-- A write leaves every other address alone. -/
theorem read_write_other (m : List Host.Cell) (a x : Nat) (v : Byte) (h : x ≠ a) :
    Memory.read dflt (Memory.write dflt m a v) x = Memory.read dflt m x := by
  unfold Memory.write
  split_ifs
  · exact read_drop_other dflt m a x h
  · exact read_put_other dflt m a x v h

theorem mem_put (m : List Host.Cell) (a : Nat) (v : Byte) (cell : Host.Cell)
    (h : cell ∈ Memory.put m a v) : cell = (a, v) ∨ cell ∈ m := by
  induction m with
  | nil => simpa [Memory.put] using h
  | cons hd m ih =>
    simp only [Memory.put] at h
    split_ifs at h
    · simpa using h
    · rcases List.mem_cons.mp h with h | h
      · exact .inl h
      · exact .inr (List.mem_cons_of_mem _ h)
    · rcases List.mem_cons.mp h with h | h
      · exact .inr (h ▸ List.mem_cons_self)
      · rcases ih h with h | h
        · exact .inl h
        · exact .inr (List.mem_cons_of_mem _ h)

theorem put_sorted (m : List Host.Cell) (a : Nat) (v : Byte)
    (h : m.Pairwise (fun x y => x.1 < y.1)) :
    (Memory.put m a v).Pairwise (fun x y => x.1 < y.1) := by
  induction m with
  | nil => simp [Memory.put]
  | cons hd m ih =>
    obtain ⟨hhd, hm⟩ := List.pairwise_cons.mp h
    simp only [Memory.put]
    split_ifs with h1 h2
    · refine List.pairwise_cons.mpr ⟨fun y hy => ?_, h⟩
      rcases List.mem_cons.mp hy with rfl | hy
      · exact h1
      · exact h1.trans (hhd y hy)
    · exact List.pairwise_cons.mpr ⟨fun y hy => h2 ▸ hhd y hy, hm⟩
    · refine List.pairwise_cons.mpr ⟨fun y hy => ?_, ih hm⟩
      rcases mem_put m a v y hy with rfl | hy
      · exact lt_of_le_of_ne (not_lt.mp h1) (Ne.symm h2)
      · exact hhd y hy

/-- Every memory write keeps the canonical form. -/
theorem write_wf (m : List Host.Cell) (a : Nat) (v : Byte) (h : Memory.wf dflt m) :
    Memory.wf dflt (Memory.write dflt m a v) := by
  unfold Memory.write
  split_ifs with hv
  · exact ⟨h.1.filter _, fun cell hc => h.2 cell (List.mem_of_mem_filter hc)⟩
  · refine ⟨put_sorted m a v h.1, fun cell hc => ?_⟩
    rcases mem_put m a v cell hc with rfl | hc
    · exact hv
    · exact h.2 cell hc

/-- A write to an address of a region keeps every listed address in the region. -/
theorem write_within (p : Nat → Bool) (m : List Host.Cell) (a : Nat) (v : Byte)
    (ha : p a = true) (h : Memory.within p m) :
    Memory.within p (Memory.write dflt m a v) := by
  unfold Memory.write
  split_ifs
  · exact fun cell hc => h cell (List.mem_of_mem_filter hc)
  · intro cell hc
    rcases mem_put m a v cell hc with rfl | hc
    · exact ha
    · exact h cell hc

theorem empty_wf : Memory.wf dflt [] := ⟨List.Pairwise.nil, by simp⟩

theorem empty_within (p : Nat → Bool) : Memory.within p [] := by simp [Memory.within]

/-- An address outside the region a list is within reads as unlisted. -/
theorem read_outside (p : Nat → Bool) (m : List Host.Cell) (a : Nat)
    (h : Memory.within p m) (ha : p a = false) : Memory.read dflt m a = dflt a := by
  induction m with
  | nil => rfl
  | cons cell m ih =>
    have hc : cell.1 ≠ a := by
      rintro rfl
      have := h cell List.mem_cons_self
      simp [ha] at this
    have hm : Memory.within p m := fun c hc => h c (List.mem_cons_of_mem _ hc)
    simp [Memory.read, hc, ih hm]

end Sys2Proof.Laws
end

