-- ==== Sys2Proof/Laws/State.lean ====
section
/-! SUPPORT. One lemma per field per update of State, so that no proof unfolds a record update. -/

namespace Sys2Proof.Laws

open Sys2Proof.Machine

/-! ### clockIf -/

@[simp] theorem clockIf_a (p : Bool) (s : State) : (clockIf p s).a = s.a := rfl
@[simp] theorem clockIf_b (p : Bool) (s : State) : (clockIf p s).b = s.b := rfl
@[simp] theorem clockIf_c (p : Bool) (s : State) : (clockIf p s).c = s.c := rfl
@[simp] theorem clockIf_d (p : Bool) (s : State) : (clockIf p s).d = s.d := rfl
@[simp] theorem clockIf_e (p : Bool) (s : State) : (clockIf p s).e = s.e := rfl
@[simp] theorem clockIf_h (p : Bool) (s : State) : (clockIf p s).h = s.h := rfl
@[simp] theorem clockIf_l (p : Bool) (s : State) : (clockIf p s).l = s.l := rfl
@[simp] theorem clockIf_f (p : Bool) (s : State) : (clockIf p s).f = s.f := rfl
@[simp] theorem clockIf_sp (p : Bool) (s : State) : (clockIf p s).sp = s.sp := rfl
@[simp] theorem clockIf_pc (p : Bool) (s : State) : (clockIf p s).pc = s.pc := rfl
@[simp] theorem clockIf_ime (p : Bool) (s : State) : (clockIf p s).ime = s.ime := rfl
@[simp] theorem clockIf_eiPending (p : Bool) (s : State) : (clockIf p s).eiPending = s.eiPending := rfl
@[simp] theorem clockIf_halted (p : Bool) (s : State) : (clockIf p s).halted = s.halted := rfl
@[simp] theorem clockIf_haltBug (p : Bool) (s : State) : (clockIf p s).haltBug = s.haltBug := rfl
@[simp] theorem clockIf_stopped (p : Bool) (s : State) : (clockIf p s).stopped = s.stopped := rfl
@[simp] theorem clockIf_fault (p : Bool) (s : State) : (clockIf p s).fault = s.fault := rfl
@[simp] theorem clockIf_ie (p : Bool) (s : State) : (clockIf p s).ie = s.ie := rfl
@[simp] theorem clockIf_mem (p : Bool) (s : State) : (clockIf p s).mem = s.mem := rfl
@[simp] theorem clockIf_cart (p : Bool) (s : State) : (clockIf p s).cart = s.cart := rfl
@[simp] theorem clockIf_ticks (p : Bool) (s : State) : (clockIf p s).ticks = s.ticks := rfl
@[simp] theorem clockIf_draws (p : Bool) (s : State) : (clockIf p s).draws = s.draws := rfl
@[simp] theorem clockIf_opAddr (p : Bool) (s : State) : (clockIf p s).opAddr = s.opAddr := rfl

/-! ### accessCycle -/

@[simp] theorem accessCycle_a (s : State) : (accessCycle s).a = s.a := rfl
@[simp] theorem accessCycle_b (s : State) : (accessCycle s).b = s.b := rfl
@[simp] theorem accessCycle_c (s : State) : (accessCycle s).c = s.c := rfl
@[simp] theorem accessCycle_d (s : State) : (accessCycle s).d = s.d := rfl
@[simp] theorem accessCycle_e (s : State) : (accessCycle s).e = s.e := rfl
@[simp] theorem accessCycle_h (s : State) : (accessCycle s).h = s.h := rfl
@[simp] theorem accessCycle_l (s : State) : (accessCycle s).l = s.l := rfl
@[simp] theorem accessCycle_f (s : State) : (accessCycle s).f = s.f := rfl
@[simp] theorem accessCycle_sp (s : State) : (accessCycle s).sp = s.sp := rfl
@[simp] theorem accessCycle_pc (s : State) : (accessCycle s).pc = s.pc := rfl
@[simp] theorem accessCycle_ime (s : State) : (accessCycle s).ime = s.ime := rfl
@[simp] theorem accessCycle_eiPending (s : State) : (accessCycle s).eiPending = s.eiPending := rfl
@[simp] theorem accessCycle_halted (s : State) : (accessCycle s).halted = s.halted := rfl
@[simp] theorem accessCycle_haltBug (s : State) : (accessCycle s).haltBug = s.haltBug := rfl
@[simp] theorem accessCycle_stopped (s : State) : (accessCycle s).stopped = s.stopped := rfl
@[simp] theorem accessCycle_fault (s : State) : (accessCycle s).fault = s.fault := rfl
@[simp] theorem accessCycle_ie (s : State) : (accessCycle s).ie = s.ie := rfl
@[simp] theorem accessCycle_mem (s : State) : (accessCycle s).mem = s.mem := rfl
@[simp] theorem accessCycle_cart (s : State) : (accessCycle s).cart = s.cart := rfl
@[simp] theorem accessCycle_draws (s : State) : (accessCycle s).draws = s.draws := rfl
@[simp] theorem accessCycle_opAddr (s : State) : (accessCycle s).opAddr = s.opAddr := rfl
@[simp] theorem accessCycle_ticks (s : State) : (accessCycle s).ticks = s.ticks + 4 := rfl
@[simp] theorem accessCycle_clocks (s : State) : (accessCycle s).clocks = s.clocks + 1 := rfl

/-! ### internal -/

@[simp] theorem internal_a (s : State) : (internal s).a = s.a := rfl
@[simp] theorem internal_b (s : State) : (internal s).b = s.b := rfl
@[simp] theorem internal_c (s : State) : (internal s).c = s.c := rfl
@[simp] theorem internal_d (s : State) : (internal s).d = s.d := rfl
@[simp] theorem internal_e (s : State) : (internal s).e = s.e := rfl
@[simp] theorem internal_h (s : State) : (internal s).h = s.h := rfl
@[simp] theorem internal_l (s : State) : (internal s).l = s.l := rfl
@[simp] theorem internal_f (s : State) : (internal s).f = s.f := rfl
@[simp] theorem internal_sp (s : State) : (internal s).sp = s.sp := rfl
@[simp] theorem internal_pc (s : State) : (internal s).pc = s.pc := rfl
@[simp] theorem internal_ime (s : State) : (internal s).ime = s.ime := rfl
@[simp] theorem internal_eiPending (s : State) : (internal s).eiPending = s.eiPending := rfl
@[simp] theorem internal_halted (s : State) : (internal s).halted = s.halted := rfl
@[simp] theorem internal_haltBug (s : State) : (internal s).haltBug = s.haltBug := rfl
@[simp] theorem internal_stopped (s : State) : (internal s).stopped = s.stopped := rfl
@[simp] theorem internal_fault (s : State) : (internal s).fault = s.fault := rfl
@[simp] theorem internal_ie (s : State) : (internal s).ie = s.ie := rfl
@[simp] theorem internal_mem (s : State) : (internal s).mem = s.mem := rfl
@[simp] theorem internal_cart (s : State) : (internal s).cart = s.cart := rfl
@[simp] theorem internal_draws (s : State) : (internal s).draws = s.draws := rfl
@[simp] theorem internal_opAddr (s : State) : (internal s).opAddr = s.opAddr := rfl
@[simp] theorem internal_ticks (s : State) : (internal s).ticks = s.ticks + 4 := rfl

/-! ### afterRead -/

@[simp] theorem afterRead_a (s : State) (x : Word) : (afterRead s x).a = s.a := rfl
@[simp] theorem afterRead_b (s : State) (x : Word) : (afterRead s x).b = s.b := rfl
@[simp] theorem afterRead_c (s : State) (x : Word) : (afterRead s x).c = s.c := rfl
@[simp] theorem afterRead_d (s : State) (x : Word) : (afterRead s x).d = s.d := rfl
@[simp] theorem afterRead_e (s : State) (x : Word) : (afterRead s x).e = s.e := rfl
@[simp] theorem afterRead_h (s : State) (x : Word) : (afterRead s x).h = s.h := rfl
@[simp] theorem afterRead_l (s : State) (x : Word) : (afterRead s x).l = s.l := rfl
@[simp] theorem afterRead_f (s : State) (x : Word) : (afterRead s x).f = s.f := rfl
@[simp] theorem afterRead_sp (s : State) (x : Word) : (afterRead s x).sp = s.sp := rfl
@[simp] theorem afterRead_pc (s : State) (x : Word) : (afterRead s x).pc = s.pc := rfl
@[simp] theorem afterRead_ime (s : State) (x : Word) : (afterRead s x).ime = s.ime := rfl
@[simp] theorem afterRead_eiPending (s : State) (x : Word) : (afterRead s x).eiPending = s.eiPending := rfl
@[simp] theorem afterRead_halted (s : State) (x : Word) : (afterRead s x).halted = s.halted := rfl
@[simp] theorem afterRead_haltBug (s : State) (x : Word) : (afterRead s x).haltBug = s.haltBug := rfl
@[simp] theorem afterRead_stopped (s : State) (x : Word) : (afterRead s x).stopped = s.stopped := rfl
@[simp] theorem afterRead_fault (s : State) (x : Word) : (afterRead s x).fault = s.fault := rfl
@[simp] theorem afterRead_ie (s : State) (x : Word) : (afterRead s x).ie = s.ie := rfl
@[simp] theorem afterRead_iflag (s : State) (x : Word) : (afterRead s x).iflag = s.iflag := rfl
@[simp] theorem afterRead_mem (s : State) (x : Word) : (afterRead s x).mem = s.mem := rfl
@[simp] theorem afterRead_io (s : State) (x : Word) : (afterRead s x).io = s.io := rfl
@[simp] theorem afterRead_cart (s : State) (x : Word) : (afterRead s x).cart = s.cart := rfl
@[simp] theorem afterRead_ticks (s : State) (x : Word) : (afterRead s x).ticks = s.ticks := rfl
@[simp] theorem afterRead_clocks (s : State) (x : Word) : (afterRead s x).clocks = s.clocks := rfl
@[simp] theorem afterRead_opAddr (s : State) (x : Word) : (afterRead s x).opAddr = s.opAddr := rfl

/-! ### memRead -/

@[simp] theorem memRead_a (s : State) (x : Word) : ((memRead s x).2).a = s.a := rfl
@[simp] theorem memRead_b (s : State) (x : Word) : ((memRead s x).2).b = s.b := rfl
@[simp] theorem memRead_c (s : State) (x : Word) : ((memRead s x).2).c = s.c := rfl
@[simp] theorem memRead_d (s : State) (x : Word) : ((memRead s x).2).d = s.d := rfl
@[simp] theorem memRead_e (s : State) (x : Word) : ((memRead s x).2).e = s.e := rfl
@[simp] theorem memRead_h (s : State) (x : Word) : ((memRead s x).2).h = s.h := rfl
@[simp] theorem memRead_l (s : State) (x : Word) : ((memRead s x).2).l = s.l := rfl
@[simp] theorem memRead_f (s : State) (x : Word) : ((memRead s x).2).f = s.f := rfl
@[simp] theorem memRead_sp (s : State) (x : Word) : ((memRead s x).2).sp = s.sp := rfl
@[simp] theorem memRead_pc (s : State) (x : Word) : ((memRead s x).2).pc = s.pc := rfl
@[simp] theorem memRead_ime (s : State) (x : Word) : ((memRead s x).2).ime = s.ime := rfl
@[simp] theorem memRead_eiPending (s : State) (x : Word) : ((memRead s x).2).eiPending = s.eiPending := rfl
@[simp] theorem memRead_halted (s : State) (x : Word) : ((memRead s x).2).halted = s.halted := rfl
@[simp] theorem memRead_haltBug (s : State) (x : Word) : ((memRead s x).2).haltBug = s.haltBug := rfl
@[simp] theorem memRead_stopped (s : State) (x : Word) : ((memRead s x).2).stopped = s.stopped := rfl
@[simp] theorem memRead_fault (s : State) (x : Word) : ((memRead s x).2).fault = s.fault := rfl
@[simp] theorem memRead_ie (s : State) (x : Word) : ((memRead s x).2).ie = s.ie := rfl
@[simp] theorem memRead_mem (s : State) (x : Word) : ((memRead s x).2).mem = s.mem := rfl
@[simp] theorem memRead_cart (s : State) (x : Word) : ((memRead s x).2).cart = s.cart := rfl
@[simp] theorem memRead_opAddr (s : State) (x : Word) : ((memRead s x).2).opAddr = s.opAddr := rfl
@[simp] theorem memRead_ticks (s : State) (x : Word) : (memRead s x).2.ticks = s.ticks + 4 := rfl
@[simp] theorem memRead_clocks (s : State) (x : Word) : (memRead s x).2.clocks = s.clocks + 1 := rfl

/-- A pop reads the byte at SP and moves SP past it. -/
theorem popByte_snd (s : State) :
    (popByte s).2 = { (memRead s s.sp).2 with sp := s.sp + 1 } := by unfold popByte; rfl

/-! ### popByte -/

@[simp] theorem popByte_a (s : State) : ((popByte s).2).a = s.a := by simp only [popByte_snd, memRead_a]
@[simp] theorem popByte_b (s : State) : ((popByte s).2).b = s.b := by simp only [popByte_snd, memRead_b]
@[simp] theorem popByte_c (s : State) : ((popByte s).2).c = s.c := by simp only [popByte_snd, memRead_c]
@[simp] theorem popByte_d (s : State) : ((popByte s).2).d = s.d := by simp only [popByte_snd, memRead_d]
@[simp] theorem popByte_e (s : State) : ((popByte s).2).e = s.e := by simp only [popByte_snd, memRead_e]
@[simp] theorem popByte_h (s : State) : ((popByte s).2).h = s.h := by simp only [popByte_snd, memRead_h]
@[simp] theorem popByte_l (s : State) : ((popByte s).2).l = s.l := by simp only [popByte_snd, memRead_l]
@[simp] theorem popByte_f (s : State) : ((popByte s).2).f = s.f := by simp only [popByte_snd, memRead_f]
@[simp] theorem popByte_pc (s : State) : ((popByte s).2).pc = s.pc := by simp only [popByte_snd, memRead_pc]
@[simp] theorem popByte_ime (s : State) : ((popByte s).2).ime = s.ime := by simp only [popByte_snd, memRead_ime]
@[simp] theorem popByte_eiPending (s : State) : ((popByte s).2).eiPending = s.eiPending := by simp only [popByte_snd, memRead_eiPending]
@[simp] theorem popByte_halted (s : State) : ((popByte s).2).halted = s.halted := by simp only [popByte_snd, memRead_halted]
@[simp] theorem popByte_haltBug (s : State) : ((popByte s).2).haltBug = s.haltBug := by simp only [popByte_snd, memRead_haltBug]
@[simp] theorem popByte_stopped (s : State) : ((popByte s).2).stopped = s.stopped := by simp only [popByte_snd, memRead_stopped]
@[simp] theorem popByte_fault (s : State) : ((popByte s).2).fault = s.fault := by simp only [popByte_snd, memRead_fault]
@[simp] theorem popByte_ie (s : State) : ((popByte s).2).ie = s.ie := by simp only [popByte_snd, memRead_ie]
@[simp] theorem popByte_mem (s : State) : ((popByte s).2).mem = s.mem := by simp only [popByte_snd, memRead_mem]
@[simp] theorem popByte_cart (s : State) : ((popByte s).2).cart = s.cart := by simp only [popByte_snd, memRead_cart]
@[simp] theorem popByte_opAddr (s : State) : ((popByte s).2).opAddr = s.opAddr := by simp only [popByte_snd, memRead_opAddr]
@[simp] theorem popByte_ticks (s : State) : (popByte s).2.ticks = s.ticks + 4 := by simp only [popByte_snd, memRead_ticks]
@[simp] theorem popByte_sp (s : State) : (popByte s).2.sp = s.sp + 1 := by simp only [popByte_snd]

/-! ### popWord: two byte pops, low byte first -/

@[simp] theorem popWord_snd (s : State) : (popWord s).2 = (popByte (popByte s).2).2 := rfl

theorem popWord_fst (s : State) :
    (popWord s).1 = mkWord (popByte (popByte s).2).1 (popByte s).1 := rfl

/-- What one call leaves. -/
theorem fetchByte_snd (s : State) :
    (fetchByte s).2 = { (memRead s s.pc).2 with pc := s.pc + 1 } := by unfold fetchByte; rfl

/-! ### fetchByte -/

@[simp] theorem fetchByte_a (s : State) : ((fetchByte s).2).a = s.a := by simp only [fetchByte_snd, memRead_a]
@[simp] theorem fetchByte_b (s : State) : ((fetchByte s).2).b = s.b := by simp only [fetchByte_snd, memRead_b]
@[simp] theorem fetchByte_c (s : State) : ((fetchByte s).2).c = s.c := by simp only [fetchByte_snd, memRead_c]
@[simp] theorem fetchByte_d (s : State) : ((fetchByte s).2).d = s.d := by simp only [fetchByte_snd, memRead_d]
@[simp] theorem fetchByte_e (s : State) : ((fetchByte s).2).e = s.e := by simp only [fetchByte_snd, memRead_e]
@[simp] theorem fetchByte_h (s : State) : ((fetchByte s).2).h = s.h := by simp only [fetchByte_snd, memRead_h]
@[simp] theorem fetchByte_l (s : State) : ((fetchByte s).2).l = s.l := by simp only [fetchByte_snd, memRead_l]
@[simp] theorem fetchByte_f (s : State) : ((fetchByte s).2).f = s.f := by simp only [fetchByte_snd, memRead_f]
@[simp] theorem fetchByte_sp (s : State) : ((fetchByte s).2).sp = s.sp := by simp only [fetchByte_snd, memRead_sp]
@[simp] theorem fetchByte_ime (s : State) : ((fetchByte s).2).ime = s.ime := by simp only [fetchByte_snd, memRead_ime]
@[simp] theorem fetchByte_eiPending (s : State) : ((fetchByte s).2).eiPending = s.eiPending := by simp only [fetchByte_snd, memRead_eiPending]
@[simp] theorem fetchByte_halted (s : State) : ((fetchByte s).2).halted = s.halted := by simp only [fetchByte_snd, memRead_halted]
@[simp] theorem fetchByte_haltBug (s : State) : ((fetchByte s).2).haltBug = s.haltBug := by simp only [fetchByte_snd, memRead_haltBug]
@[simp] theorem fetchByte_stopped (s : State) : ((fetchByte s).2).stopped = s.stopped := by simp only [fetchByte_snd, memRead_stopped]
@[simp] theorem fetchByte_fault (s : State) : ((fetchByte s).2).fault = s.fault := by simp only [fetchByte_snd, memRead_fault]
@[simp] theorem fetchByte_ie (s : State) : ((fetchByte s).2).ie = s.ie := by simp only [fetchByte_snd, memRead_ie]
@[simp] theorem fetchByte_mem (s : State) : ((fetchByte s).2).mem = s.mem := by simp only [fetchByte_snd, memRead_mem]
@[simp] theorem fetchByte_cart (s : State) : ((fetchByte s).2).cart = s.cart := by simp only [fetchByte_snd, memRead_cart]
@[simp] theorem fetchByte_opAddr (s : State) : ((fetchByte s).2).opAddr = s.opAddr := by simp only [fetchByte_snd, memRead_opAddr]
@[simp] theorem fetchByte_ticks (s : State) : (fetchByte s).2.ticks = s.ticks + 4 := by simp only [fetchByte_snd, memRead_ticks]
@[simp] theorem fetchByte_pc (s : State) : (fetchByte s).2.pc = s.pc + 1 := by simp only [fetchByte_snd]

/-- What one call leaves. -/
theorem fetchOpcode_snd (s : State) :
    (fetchOpcode s).2 = { (memRead s s.pc).2 with
      pc := if s.haltBug then s.pc else s.pc + 1, haltBug := false, opAddr := s.pc } := by unfold fetchOpcode; rfl

/-! ### fetchOpcode -/

@[simp] theorem fetchOpcode_a (s : State) : ((fetchOpcode s).2).a = s.a := by simp only [fetchOpcode_snd, memRead_a]
@[simp] theorem fetchOpcode_b (s : State) : ((fetchOpcode s).2).b = s.b := by simp only [fetchOpcode_snd, memRead_b]
@[simp] theorem fetchOpcode_c (s : State) : ((fetchOpcode s).2).c = s.c := by simp only [fetchOpcode_snd, memRead_c]
@[simp] theorem fetchOpcode_d (s : State) : ((fetchOpcode s).2).d = s.d := by simp only [fetchOpcode_snd, memRead_d]
@[simp] theorem fetchOpcode_e (s : State) : ((fetchOpcode s).2).e = s.e := by simp only [fetchOpcode_snd, memRead_e]
@[simp] theorem fetchOpcode_h (s : State) : ((fetchOpcode s).2).h = s.h := by simp only [fetchOpcode_snd, memRead_h]
@[simp] theorem fetchOpcode_l (s : State) : ((fetchOpcode s).2).l = s.l := by simp only [fetchOpcode_snd, memRead_l]
@[simp] theorem fetchOpcode_f (s : State) : ((fetchOpcode s).2).f = s.f := by simp only [fetchOpcode_snd, memRead_f]
@[simp] theorem fetchOpcode_sp (s : State) : ((fetchOpcode s).2).sp = s.sp := by simp only [fetchOpcode_snd, memRead_sp]
@[simp] theorem fetchOpcode_ime (s : State) : ((fetchOpcode s).2).ime = s.ime := by simp only [fetchOpcode_snd, memRead_ime]
@[simp] theorem fetchOpcode_eiPending (s : State) : ((fetchOpcode s).2).eiPending = s.eiPending := by simp only [fetchOpcode_snd, memRead_eiPending]
@[simp] theorem fetchOpcode_halted (s : State) : ((fetchOpcode s).2).halted = s.halted := by simp only [fetchOpcode_snd, memRead_halted]
@[simp] theorem fetchOpcode_stopped (s : State) : ((fetchOpcode s).2).stopped = s.stopped := by simp only [fetchOpcode_snd, memRead_stopped]
@[simp] theorem fetchOpcode_fault (s : State) : ((fetchOpcode s).2).fault = s.fault := by simp only [fetchOpcode_snd, memRead_fault]
@[simp] theorem fetchOpcode_ie (s : State) : ((fetchOpcode s).2).ie = s.ie := by simp only [fetchOpcode_snd, memRead_ie]
@[simp] theorem fetchOpcode_mem (s : State) : ((fetchOpcode s).2).mem = s.mem := by simp only [fetchOpcode_snd, memRead_mem]
@[simp] theorem fetchOpcode_cart (s : State) : ((fetchOpcode s).2).cart = s.cart := by simp only [fetchOpcode_snd, memRead_cart]
@[simp] theorem fetchOpcode_ticks (s : State) : (fetchOpcode s).2.ticks = s.ticks + 4 := by simp only [fetchOpcode_snd, memRead_ticks]
@[simp] theorem fetchOpcode_pc (s : State) : (fetchOpcode s).2.pc = if s.haltBug then s.pc else s.pc + 1 := by simp only [fetchOpcode_snd]
@[simp] theorem fetchOpcode_haltBug (s : State) : (fetchOpcode s).2.haltBug = false := by simp only [fetchOpcode_snd]
@[simp] theorem fetchOpcode_opAddr (s : State) : (fetchOpcode s).2.opAddr = s.pc := by simp only [fetchOpcode_snd]

/-! ### cartControl -/

@[simp] theorem cartControl_a (s : State) (x : Word) (v : Byte) : (cartControl s x v).a = s.a := rfl
@[simp] theorem cartControl_b (s : State) (x : Word) (v : Byte) : (cartControl s x v).b = s.b := rfl
@[simp] theorem cartControl_c (s : State) (x : Word) (v : Byte) : (cartControl s x v).c = s.c := rfl
@[simp] theorem cartControl_d (s : State) (x : Word) (v : Byte) : (cartControl s x v).d = s.d := rfl
@[simp] theorem cartControl_e (s : State) (x : Word) (v : Byte) : (cartControl s x v).e = s.e := rfl
@[simp] theorem cartControl_h (s : State) (x : Word) (v : Byte) : (cartControl s x v).h = s.h := rfl
@[simp] theorem cartControl_l (s : State) (x : Word) (v : Byte) : (cartControl s x v).l = s.l := rfl
@[simp] theorem cartControl_f (s : State) (x : Word) (v : Byte) : (cartControl s x v).f = s.f := rfl
@[simp] theorem cartControl_sp (s : State) (x : Word) (v : Byte) : (cartControl s x v).sp = s.sp := rfl
@[simp] theorem cartControl_pc (s : State) (x : Word) (v : Byte) : (cartControl s x v).pc = s.pc := rfl
@[simp] theorem cartControl_ime (s : State) (x : Word) (v : Byte) : (cartControl s x v).ime = s.ime := rfl
@[simp] theorem cartControl_eiPending (s : State) (x : Word) (v : Byte) : (cartControl s x v).eiPending = s.eiPending := rfl
@[simp] theorem cartControl_halted (s : State) (x : Word) (v : Byte) : (cartControl s x v).halted = s.halted := rfl
@[simp] theorem cartControl_haltBug (s : State) (x : Word) (v : Byte) : (cartControl s x v).haltBug = s.haltBug := rfl
@[simp] theorem cartControl_stopped (s : State) (x : Word) (v : Byte) : (cartControl s x v).stopped = s.stopped := rfl
@[simp] theorem cartControl_fault (s : State) (x : Word) (v : Byte) : (cartControl s x v).fault = s.fault := rfl
@[simp] theorem cartControl_ie (s : State) (x : Word) (v : Byte) : (cartControl s x v).ie = s.ie := rfl
@[simp] theorem cartControl_iflag (s : State) (x : Word) (v : Byte) : (cartControl s x v).iflag = s.iflag := rfl
@[simp] theorem cartControl_mem (s : State) (x : Word) (v : Byte) : (cartControl s x v).mem = s.mem := rfl
@[simp] theorem cartControl_io (s : State) (x : Word) (v : Byte) : (cartControl s x v).io = s.io := rfl
@[simp] theorem cartControl_ticks (s : State) (x : Word) (v : Byte) : (cartControl s x v).ticks = s.ticks := rfl
@[simp] theorem cartControl_clocks (s : State) (x : Word) (v : Byte) : (cartControl s x v).clocks = s.clocks := rfl
@[simp] theorem cartControl_opAddr (s : State) (x : Word) (v : Byte) : (cartControl s x v).opAddr = s.opAddr := rfl

/-! ### raiseFatal -/

@[simp] theorem raiseFatal_a (s : State) (r : Fault) : (raiseFatal s r).a = s.a := rfl
@[simp] theorem raiseFatal_b (s : State) (r : Fault) : (raiseFatal s r).b = s.b := rfl
@[simp] theorem raiseFatal_c (s : State) (r : Fault) : (raiseFatal s r).c = s.c := rfl
@[simp] theorem raiseFatal_d (s : State) (r : Fault) : (raiseFatal s r).d = s.d := rfl
@[simp] theorem raiseFatal_e (s : State) (r : Fault) : (raiseFatal s r).e = s.e := rfl
@[simp] theorem raiseFatal_h (s : State) (r : Fault) : (raiseFatal s r).h = s.h := rfl
@[simp] theorem raiseFatal_l (s : State) (r : Fault) : (raiseFatal s r).l = s.l := rfl
@[simp] theorem raiseFatal_f (s : State) (r : Fault) : (raiseFatal s r).f = s.f := rfl
@[simp] theorem raiseFatal_sp (s : State) (r : Fault) : (raiseFatal s r).sp = s.sp := rfl
@[simp] theorem raiseFatal_pc (s : State) (r : Fault) : (raiseFatal s r).pc = s.pc := rfl
@[simp] theorem raiseFatal_ime (s : State) (r : Fault) : (raiseFatal s r).ime = s.ime := rfl
@[simp] theorem raiseFatal_eiPending (s : State) (r : Fault) : (raiseFatal s r).eiPending = s.eiPending := rfl
@[simp] theorem raiseFatal_halted (s : State) (r : Fault) : (raiseFatal s r).halted = s.halted := rfl
@[simp] theorem raiseFatal_haltBug (s : State) (r : Fault) : (raiseFatal s r).haltBug = s.haltBug := rfl
@[simp] theorem raiseFatal_stopped (s : State) (r : Fault) : (raiseFatal s r).stopped = s.stopped := rfl
@[simp] theorem raiseFatal_ie (s : State) (r : Fault) : (raiseFatal s r).ie = s.ie := rfl
@[simp] theorem raiseFatal_iflag (s : State) (r : Fault) : (raiseFatal s r).iflag = s.iflag := rfl
@[simp] theorem raiseFatal_mem (s : State) (r : Fault) : (raiseFatal s r).mem = s.mem := rfl
@[simp] theorem raiseFatal_io (s : State) (r : Fault) : (raiseFatal s r).io = s.io := rfl
@[simp] theorem raiseFatal_cart (s : State) (r : Fault) : (raiseFatal s r).cart = s.cart := rfl
@[simp] theorem raiseFatal_ticks (s : State) (r : Fault) : (raiseFatal s r).ticks = s.ticks := rfl
@[simp] theorem raiseFatal_clocks (s : State) (r : Fault) : (raiseFatal s r).clocks = s.clocks := rfl
@[simp] theorem raiseFatal_draws (s : State) (r : Fault) : (raiseFatal s r).draws = s.draws := rfl
@[simp] theorem raiseFatal_opAddr (s : State) (r : Fault) : (raiseFatal s r).opAddr = s.opAddr := rfl
@[simp] theorem raiseFatal_fault (s : State) (r : Fault) : (raiseFatal s r).fault = some r := rfl

/-! ### enablePending -/

@[simp] theorem enablePending_a (s : State) : (enablePending s).a = s.a := rfl
@[simp] theorem enablePending_b (s : State) : (enablePending s).b = s.b := rfl
@[simp] theorem enablePending_c (s : State) : (enablePending s).c = s.c := rfl
@[simp] theorem enablePending_d (s : State) : (enablePending s).d = s.d := rfl
@[simp] theorem enablePending_e (s : State) : (enablePending s).e = s.e := rfl
@[simp] theorem enablePending_h (s : State) : (enablePending s).h = s.h := rfl
@[simp] theorem enablePending_l (s : State) : (enablePending s).l = s.l := rfl
@[simp] theorem enablePending_f (s : State) : (enablePending s).f = s.f := rfl
@[simp] theorem enablePending_sp (s : State) : (enablePending s).sp = s.sp := rfl
@[simp] theorem enablePending_pc (s : State) : (enablePending s).pc = s.pc := rfl
@[simp] theorem enablePending_halted (s : State) : (enablePending s).halted = s.halted := rfl
@[simp] theorem enablePending_haltBug (s : State) : (enablePending s).haltBug = s.haltBug := rfl
@[simp] theorem enablePending_stopped (s : State) : (enablePending s).stopped = s.stopped := rfl
@[simp] theorem enablePending_fault (s : State) : (enablePending s).fault = s.fault := rfl
@[simp] theorem enablePending_ie (s : State) : (enablePending s).ie = s.ie := rfl
@[simp] theorem enablePending_iflag (s : State) : (enablePending s).iflag = s.iflag := rfl
@[simp] theorem enablePending_mem (s : State) : (enablePending s).mem = s.mem := rfl
@[simp] theorem enablePending_io (s : State) : (enablePending s).io = s.io := rfl
@[simp] theorem enablePending_cart (s : State) : (enablePending s).cart = s.cart := rfl
@[simp] theorem enablePending_ticks (s : State) : (enablePending s).ticks = s.ticks := rfl
@[simp] theorem enablePending_clocks (s : State) : (enablePending s).clocks = s.clocks := rfl
@[simp] theorem enablePending_draws (s : State) : (enablePending s).draws = s.draws := rfl
@[simp] theorem enablePending_opAddr (s : State) : (enablePending s).opAddr = s.opAddr := rfl
@[simp] theorem enablePending_ime (s : State) : (enablePending s).ime = (s.ime || s.eiPending) := rfl
@[simp] theorem enablePending_eiPending (s : State) : (enablePending s).eiPending = false := rfl

/-! ### wakeFromHalt -/

@[simp] theorem wakeFromHalt_a (s : State) : (wakeFromHalt s).a = s.a := rfl
@[simp] theorem wakeFromHalt_b (s : State) : (wakeFromHalt s).b = s.b := rfl
@[simp] theorem wakeFromHalt_c (s : State) : (wakeFromHalt s).c = s.c := rfl
@[simp] theorem wakeFromHalt_d (s : State) : (wakeFromHalt s).d = s.d := rfl
@[simp] theorem wakeFromHalt_e (s : State) : (wakeFromHalt s).e = s.e := rfl
@[simp] theorem wakeFromHalt_h (s : State) : (wakeFromHalt s).h = s.h := rfl
@[simp] theorem wakeFromHalt_l (s : State) : (wakeFromHalt s).l = s.l := rfl
@[simp] theorem wakeFromHalt_f (s : State) : (wakeFromHalt s).f = s.f := rfl
@[simp] theorem wakeFromHalt_sp (s : State) : (wakeFromHalt s).sp = s.sp := rfl
@[simp] theorem wakeFromHalt_ime (s : State) : (wakeFromHalt s).ime = s.ime := rfl
@[simp] theorem wakeFromHalt_eiPending (s : State) : (wakeFromHalt s).eiPending = s.eiPending := rfl
@[simp] theorem wakeFromHalt_haltBug (s : State) : (wakeFromHalt s).haltBug = s.haltBug := rfl
@[simp] theorem wakeFromHalt_stopped (s : State) : (wakeFromHalt s).stopped = s.stopped := rfl
@[simp] theorem wakeFromHalt_fault (s : State) : (wakeFromHalt s).fault = s.fault := rfl
@[simp] theorem wakeFromHalt_ie (s : State) : (wakeFromHalt s).ie = s.ie := rfl
@[simp] theorem wakeFromHalt_iflag (s : State) : (wakeFromHalt s).iflag = s.iflag := rfl
@[simp] theorem wakeFromHalt_mem (s : State) : (wakeFromHalt s).mem = s.mem := rfl
@[simp] theorem wakeFromHalt_io (s : State) : (wakeFromHalt s).io = s.io := rfl
@[simp] theorem wakeFromHalt_cart (s : State) : (wakeFromHalt s).cart = s.cart := rfl
@[simp] theorem wakeFromHalt_ticks (s : State) : (wakeFromHalt s).ticks = s.ticks := rfl
@[simp] theorem wakeFromHalt_clocks (s : State) : (wakeFromHalt s).clocks = s.clocks := rfl
@[simp] theorem wakeFromHalt_draws (s : State) : (wakeFromHalt s).draws = s.draws := rfl
@[simp] theorem wakeFromHalt_opAddr (s : State) : (wakeFromHalt s).opAddr = s.opAddr := rfl
@[simp] theorem wakeFromHalt_halted (s : State) : (wakeFromHalt s).halted = false := rfl

/-! ### setHL -/

@[simp] theorem setHL_a (s : State) (v : Word) : (setHL s v).a = s.a := rfl
@[simp] theorem setHL_b (s : State) (v : Word) : (setHL s v).b = s.b := rfl
@[simp] theorem setHL_c (s : State) (v : Word) : (setHL s v).c = s.c := rfl
@[simp] theorem setHL_d (s : State) (v : Word) : (setHL s v).d = s.d := rfl
@[simp] theorem setHL_e (s : State) (v : Word) : (setHL s v).e = s.e := rfl
@[simp] theorem setHL_f (s : State) (v : Word) : (setHL s v).f = s.f := rfl
@[simp] theorem setHL_sp (s : State) (v : Word) : (setHL s v).sp = s.sp := rfl
@[simp] theorem setHL_pc (s : State) (v : Word) : (setHL s v).pc = s.pc := rfl
@[simp] theorem setHL_ime (s : State) (v : Word) : (setHL s v).ime = s.ime := rfl
@[simp] theorem setHL_eiPending (s : State) (v : Word) : (setHL s v).eiPending = s.eiPending := rfl
@[simp] theorem setHL_halted (s : State) (v : Word) : (setHL s v).halted = s.halted := rfl
@[simp] theorem setHL_haltBug (s : State) (v : Word) : (setHL s v).haltBug = s.haltBug := rfl
@[simp] theorem setHL_stopped (s : State) (v : Word) : (setHL s v).stopped = s.stopped := rfl
@[simp] theorem setHL_fault (s : State) (v : Word) : (setHL s v).fault = s.fault := rfl
@[simp] theorem setHL_ie (s : State) (v : Word) : (setHL s v).ie = s.ie := rfl
@[simp] theorem setHL_iflag (s : State) (v : Word) : (setHL s v).iflag = s.iflag := rfl
@[simp] theorem setHL_mem (s : State) (v : Word) : (setHL s v).mem = s.mem := rfl
@[simp] theorem setHL_io (s : State) (v : Word) : (setHL s v).io = s.io := rfl
@[simp] theorem setHL_cart (s : State) (v : Word) : (setHL s v).cart = s.cart := rfl
@[simp] theorem setHL_ticks (s : State) (v : Word) : (setHL s v).ticks = s.ticks := rfl
@[simp] theorem setHL_clocks (s : State) (v : Word) : (setHL s v).clocks = s.clocks := rfl
@[simp] theorem setHL_draws (s : State) (v : Word) : (setHL s v).draws = s.draws := rfl
@[simp] theorem setHL_opAddr (s : State) (v : Word) : (setHL s v).opAddr = s.opAddr := rfl
@[simp] theorem setHL_h (s : State) (v : Word) : (setHL s v).h = hi8 v := rfl
@[simp] theorem setHL_l (s : State) (v : Word) : (setHL s v).l = lo8 v := rfl

/-! ### aluWith -/

@[simp] theorem aluWith_b (s : State) (op : AluOp) (v : Byte) : (aluWith s op v).b = s.b := rfl
@[simp] theorem aluWith_c (s : State) (op : AluOp) (v : Byte) : (aluWith s op v).c = s.c := rfl
@[simp] theorem aluWith_d (s : State) (op : AluOp) (v : Byte) : (aluWith s op v).d = s.d := rfl
@[simp] theorem aluWith_e (s : State) (op : AluOp) (v : Byte) : (aluWith s op v).e = s.e := rfl
@[simp] theorem aluWith_h (s : State) (op : AluOp) (v : Byte) : (aluWith s op v).h = s.h := rfl
@[simp] theorem aluWith_l (s : State) (op : AluOp) (v : Byte) : (aluWith s op v).l = s.l := rfl
@[simp] theorem aluWith_sp (s : State) (op : AluOp) (v : Byte) : (aluWith s op v).sp = s.sp := rfl
@[simp] theorem aluWith_pc (s : State) (op : AluOp) (v : Byte) : (aluWith s op v).pc = s.pc := rfl
@[simp] theorem aluWith_ime (s : State) (op : AluOp) (v : Byte) : (aluWith s op v).ime = s.ime := rfl
@[simp] theorem aluWith_eiPending (s : State) (op : AluOp) (v : Byte) : (aluWith s op v).eiPending = s.eiPending := rfl
@[simp] theorem aluWith_halted (s : State) (op : AluOp) (v : Byte) : (aluWith s op v).halted = s.halted := rfl
@[simp] theorem aluWith_haltBug (s : State) (op : AluOp) (v : Byte) : (aluWith s op v).haltBug = s.haltBug := rfl
@[simp] theorem aluWith_stopped (s : State) (op : AluOp) (v : Byte) : (aluWith s op v).stopped = s.stopped := rfl
@[simp] theorem aluWith_fault (s : State) (op : AluOp) (v : Byte) : (aluWith s op v).fault = s.fault := rfl
@[simp] theorem aluWith_ie (s : State) (op : AluOp) (v : Byte) : (aluWith s op v).ie = s.ie := rfl
@[simp] theorem aluWith_iflag (s : State) (op : AluOp) (v : Byte) : (aluWith s op v).iflag = s.iflag := rfl
@[simp] theorem aluWith_mem (s : State) (op : AluOp) (v : Byte) : (aluWith s op v).mem = s.mem := rfl
@[simp] theorem aluWith_io (s : State) (op : AluOp) (v : Byte) : (aluWith s op v).io = s.io := rfl
@[simp] theorem aluWith_cart (s : State) (op : AluOp) (v : Byte) : (aluWith s op v).cart = s.cart := rfl
@[simp] theorem aluWith_ticks (s : State) (op : AluOp) (v : Byte) : (aluWith s op v).ticks = s.ticks := rfl
@[simp] theorem aluWith_clocks (s : State) (op : AluOp) (v : Byte) : (aluWith s op v).clocks = s.clocks := rfl
@[simp] theorem aluWith_draws (s : State) (op : AluOp) (v : Byte) : (aluWith s op v).draws = s.draws := rfl
@[simp] theorem aluWith_opAddr (s : State) (op : AluOp) (v : Byte) : (aluWith s op v).opAddr = s.opAddr := rfl

/-! ### resetCpu -/

@[simp] theorem resetCpu_fault (s : State) : (resetCpu s).fault = s.fault := rfl
@[simp] theorem resetCpu_ie (s : State) : (resetCpu s).ie = s.ie := rfl
@[simp] theorem resetCpu_iflag (s : State) : (resetCpu s).iflag = s.iflag := rfl
@[simp] theorem resetCpu_mem (s : State) : (resetCpu s).mem = s.mem := rfl
@[simp] theorem resetCpu_io (s : State) : (resetCpu s).io = s.io := rfl
@[simp] theorem resetCpu_cart (s : State) : (resetCpu s).cart = s.cart := rfl
@[simp] theorem resetCpu_ticks (s : State) : (resetCpu s).ticks = s.ticks := rfl
@[simp] theorem resetCpu_clocks (s : State) : (resetCpu s).clocks = s.clocks := rfl
@[simp] theorem resetCpu_draws (s : State) : (resetCpu s).draws = s.draws := rfl
@[simp] theorem resetCpu_opAddr (s : State) : (resetCpu s).opAddr = s.opAddr := rfl

/-! ### setR8 -/

@[simp] theorem setR8_f (s : State) (r : Reg8) (v : Byte) : (setR8 s r v).f = s.f := by cases r <;> rfl
@[simp] theorem setR8_sp (s : State) (r : Reg8) (v : Byte) : (setR8 s r v).sp = s.sp := by cases r <;> rfl
@[simp] theorem setR8_pc (s : State) (r : Reg8) (v : Byte) : (setR8 s r v).pc = s.pc := by cases r <;> rfl
@[simp] theorem setR8_ime (s : State) (r : Reg8) (v : Byte) : (setR8 s r v).ime = s.ime := by cases r <;> rfl
@[simp] theorem setR8_eiPending (s : State) (r : Reg8) (v : Byte) : (setR8 s r v).eiPending = s.eiPending := by cases r <;> rfl
@[simp] theorem setR8_halted (s : State) (r : Reg8) (v : Byte) : (setR8 s r v).halted = s.halted := by cases r <;> rfl
@[simp] theorem setR8_haltBug (s : State) (r : Reg8) (v : Byte) : (setR8 s r v).haltBug = s.haltBug := by cases r <;> rfl
@[simp] theorem setR8_stopped (s : State) (r : Reg8) (v : Byte) : (setR8 s r v).stopped = s.stopped := by cases r <;> rfl
@[simp] theorem setR8_fault (s : State) (r : Reg8) (v : Byte) : (setR8 s r v).fault = s.fault := by cases r <;> rfl
@[simp] theorem setR8_ie (s : State) (r : Reg8) (v : Byte) : (setR8 s r v).ie = s.ie := by cases r <;> rfl
@[simp] theorem setR8_iflag (s : State) (r : Reg8) (v : Byte) : (setR8 s r v).iflag = s.iflag := by cases r <;> rfl
@[simp] theorem setR8_mem (s : State) (r : Reg8) (v : Byte) : (setR8 s r v).mem = s.mem := by cases r <;> rfl
@[simp] theorem setR8_io (s : State) (r : Reg8) (v : Byte) : (setR8 s r v).io = s.io := by cases r <;> rfl
@[simp] theorem setR8_cart (s : State) (r : Reg8) (v : Byte) : (setR8 s r v).cart = s.cart := by cases r <;> rfl
@[simp] theorem setR8_ticks (s : State) (r : Reg8) (v : Byte) : (setR8 s r v).ticks = s.ticks := by cases r <;> rfl
@[simp] theorem setR8_clocks (s : State) (r : Reg8) (v : Byte) : (setR8 s r v).clocks = s.clocks := by cases r <;> rfl
@[simp] theorem setR8_draws (s : State) (r : Reg8) (v : Byte) : (setR8 s r v).draws = s.draws := by cases r <;> rfl
@[simp] theorem setR8_opAddr (s : State) (r : Reg8) (v : Byte) : (setR8 s r v).opAddr = s.opAddr := by cases r <;> rfl

/-! ### setR16 -/

@[simp] theorem setR16_a (s : State) (r : Reg16) (v : Word) : (setR16 s r v).a = s.a := by cases r <;> rfl
@[simp] theorem setR16_f (s : State) (r : Reg16) (v : Word) : (setR16 s r v).f = s.f := by cases r <;> rfl
@[simp] theorem setR16_pc (s : State) (r : Reg16) (v : Word) : (setR16 s r v).pc = s.pc := by cases r <;> rfl
@[simp] theorem setR16_ime (s : State) (r : Reg16) (v : Word) : (setR16 s r v).ime = s.ime := by cases r <;> rfl
@[simp] theorem setR16_eiPending (s : State) (r : Reg16) (v : Word) : (setR16 s r v).eiPending = s.eiPending := by cases r <;> rfl
@[simp] theorem setR16_halted (s : State) (r : Reg16) (v : Word) : (setR16 s r v).halted = s.halted := by cases r <;> rfl
@[simp] theorem setR16_haltBug (s : State) (r : Reg16) (v : Word) : (setR16 s r v).haltBug = s.haltBug := by cases r <;> rfl
@[simp] theorem setR16_stopped (s : State) (r : Reg16) (v : Word) : (setR16 s r v).stopped = s.stopped := by cases r <;> rfl
@[simp] theorem setR16_fault (s : State) (r : Reg16) (v : Word) : (setR16 s r v).fault = s.fault := by cases r <;> rfl
@[simp] theorem setR16_ie (s : State) (r : Reg16) (v : Word) : (setR16 s r v).ie = s.ie := by cases r <;> rfl
@[simp] theorem setR16_iflag (s : State) (r : Reg16) (v : Word) : (setR16 s r v).iflag = s.iflag := by cases r <;> rfl
@[simp] theorem setR16_mem (s : State) (r : Reg16) (v : Word) : (setR16 s r v).mem = s.mem := by cases r <;> rfl
@[simp] theorem setR16_io (s : State) (r : Reg16) (v : Word) : (setR16 s r v).io = s.io := by cases r <;> rfl
@[simp] theorem setR16_cart (s : State) (r : Reg16) (v : Word) : (setR16 s r v).cart = s.cart := by cases r <;> rfl
@[simp] theorem setR16_ticks (s : State) (r : Reg16) (v : Word) : (setR16 s r v).ticks = s.ticks := by cases r <;> rfl
@[simp] theorem setR16_clocks (s : State) (r : Reg16) (v : Word) : (setR16 s r v).clocks = s.clocks := by cases r <;> rfl
@[simp] theorem setR16_draws (s : State) (r : Reg16) (v : Word) : (setR16 s r v).draws = s.draws := by cases r <;> rfl
@[simp] theorem setR16_opAddr (s : State) (r : Reg16) (v : Word) : (setR16 s r v).opAddr = s.opAddr := by cases r <;> rfl

/-! ### setStk16 -/

@[simp] theorem setStk16_sp (s : State) (r : StkReg) (v : Word) : (setStk16 s r v).sp = s.sp := by cases r <;> rfl
@[simp] theorem setStk16_pc (s : State) (r : StkReg) (v : Word) : (setStk16 s r v).pc = s.pc := by cases r <;> rfl
@[simp] theorem setStk16_ime (s : State) (r : StkReg) (v : Word) : (setStk16 s r v).ime = s.ime := by cases r <;> rfl
@[simp] theorem setStk16_eiPending (s : State) (r : StkReg) (v : Word) : (setStk16 s r v).eiPending = s.eiPending := by cases r <;> rfl
@[simp] theorem setStk16_halted (s : State) (r : StkReg) (v : Word) : (setStk16 s r v).halted = s.halted := by cases r <;> rfl
@[simp] theorem setStk16_haltBug (s : State) (r : StkReg) (v : Word) : (setStk16 s r v).haltBug = s.haltBug := by cases r <;> rfl
@[simp] theorem setStk16_stopped (s : State) (r : StkReg) (v : Word) : (setStk16 s r v).stopped = s.stopped := by cases r <;> rfl
@[simp] theorem setStk16_fault (s : State) (r : StkReg) (v : Word) : (setStk16 s r v).fault = s.fault := by cases r <;> rfl
@[simp] theorem setStk16_ie (s : State) (r : StkReg) (v : Word) : (setStk16 s r v).ie = s.ie := by cases r <;> rfl
@[simp] theorem setStk16_iflag (s : State) (r : StkReg) (v : Word) : (setStk16 s r v).iflag = s.iflag := by cases r <;> rfl
@[simp] theorem setStk16_mem (s : State) (r : StkReg) (v : Word) : (setStk16 s r v).mem = s.mem := by cases r <;> rfl
@[simp] theorem setStk16_io (s : State) (r : StkReg) (v : Word) : (setStk16 s r v).io = s.io := by cases r <;> rfl
@[simp] theorem setStk16_cart (s : State) (r : StkReg) (v : Word) : (setStk16 s r v).cart = s.cart := by cases r <;> rfl
@[simp] theorem setStk16_ticks (s : State) (r : StkReg) (v : Word) : (setStk16 s r v).ticks = s.ticks := by cases r <;> rfl
@[simp] theorem setStk16_clocks (s : State) (r : StkReg) (v : Word) : (setStk16 s r v).clocks = s.clocks := by cases r <;> rfl
@[simp] theorem setStk16_draws (s : State) (r : StkReg) (v : Word) : (setStk16 s r v).draws = s.draws := by cases r <;> rfl
@[simp] theorem setStk16_opAddr (s : State) (r : StkReg) (v : Word) : (setStk16 s r v).opAddr = s.opAddr := by cases r <;> rfl

/-! ### Register reads after register writes -/

@[simp] theorem r8_setR8_self (s : State) (r : Reg8) (v : Byte) : r8 (setR8 s r v) r = v := by
  cases r <;> rfl

theorem r8_setR8_other (s : State) (r q : Reg8) (v : Byte) (h : q ≠ r) :
    r8 (setR8 s r v) q = r8 s q := by
  cases r <;> cases q <;> first | rfl | exact absurd rfl h

theorem mkWord_halves (w : Word) : mkWord (hi8 w) (lo8 w) = w := by
  simp only [mkWord, hi8, lo8]
  exact BitVec.extractLsb'_append_extractLsb'_eq_extractLsb' (by rfl) |>.trans (by simp)

@[simp] theorem hi8_mkWord (x y : Byte) : hi8 (mkWord x y) = x := by
  ext i hi
  simp only [hi8, mkWord, BitVec.getElem_extractLsb', BitVec.getLsbD_append]
  have h1 : ¬ (8 + i < 8) := by omega
  have h2 : 8 + i - 8 = i := by omega
  simp [h1, h2, BitVec.getLsbD_eq_getElem hi]

@[simp] theorem lo8_mkWord (x y : Byte) : lo8 (mkWord x y) = y := by
  ext i hi
  simp only [lo8, mkWord, BitVec.getElem_extractLsb', BitVec.getLsbD_append]
  have h1 : 0 + i < 8 := by omega
  simp [hi]

@[simp] theorem r16_setR16_self (s : State) (r : Reg16) (v : Word) : r16 (setR16 s r v) r = v := by
  cases r
  · exact mkWord_halves v
  · exact mkWord_halves v
  · exact mkWord_halves v
  · rfl

theorem regHL_setHL (s : State) (v : Word) : regHL (setHL s v) = v := mkWord_halves v

end Sys2Proof.Laws
end

