-- ==== Sys2Proof/Laws/Bus.lean ====
section
/-! SUPPORT. What a bus write and an M-cycle can do: one lemma for each shared operation of
Machine/Ops.lean that says all of it, and the field lemmas that follow from it. -/

namespace Sys2Proof.Laws

open Sys2Proof.Machine

/-! ## The CPU fields: no bus write touches one -/

/-- `t` with the storage of `s` is `s`: nothing but IE, IF, the byte stores, the cartridge and the draw
counter differs. -/
def StorageOnly (s t : State) : Prop :=
  { t with ie := s.ie, iflag := s.iflag, mem := s.mem, io := s.io, cart := s.cart, draws := s.draws } = s

theorem StorageOnly.eq {s t : State} (k : StorageOnly s t) :
    { t with ie := s.ie, iflag := s.iflag, mem := s.mem, io := s.io, cart := s.cart,
             draws := s.draws } = s := k

theorem StorageOnly.refl (s : State) : StorageOnly s s := rfl

theorem StorageOnly.trans {s t u : State} (h : StorageOnly s t) (k : StorageOnly t u) :
    StorageOnly s u := by
  unfold StorageOnly at *
  rw [← h, ← k]

theorem flatWrite_storage (s : State) (a : Word) (v : Byte) : StorageOnly s (flatWrite s a v) := by
  unfold flatWrite StorageOnly; split_ifs <;> rfl

theorem afterRead_storage (s : State) (a : Word) : StorageOnly s (afterRead s a) := rfl

theorem oamDmaByte_storage (p : Byte) (s : State) (i : Nat) : StorageOnly s (oamDmaByte p s i) :=
  (afterRead_storage s _).trans (flatWrite_storage _ _ _)

theorem oamDmaFold_storage (p : Byte) (l : List Nat) (s : State) :
    StorageOnly s (l.foldl (oamDmaByte p) s) := by
  induction l generalizing s with
  | nil => rfl
  | cons i l ih => exact (oamDmaByte_storage p s i).trans (ih _)

theorem oamDma_storage (s : State) (v : Byte) : StorageOnly s (oamDma s v) :=
  oamDmaFold_storage v _ s

/-- A bus write changes no CPU field, and no tick or clock count. -/
theorem busWrite_storage (s : State) (a : Word) (v : Byte) : StorageOnly s (busWrite s a v) := by
  unfold busWrite
  split_ifs
  · rfl
  · rfl
  · rfl
  · exact oamDma_storage s v
  · exact flatWrite_storage s a v

theorem StorageOnly.a {s t : State} (k : StorageOnly s t) : t.a = s.a := by
  have e := congrArg State.a k.eq
  exact e
theorem StorageOnly.b {s t : State} (k : StorageOnly s t) : t.b = s.b := by
  have e := congrArg State.b k.eq
  exact e
theorem StorageOnly.c {s t : State} (k : StorageOnly s t) : t.c = s.c := by
  have e := congrArg State.c k.eq
  exact e
theorem StorageOnly.d {s t : State} (k : StorageOnly s t) : t.d = s.d := by
  have e := congrArg State.d k.eq
  exact e
theorem StorageOnly.e {s t : State} (k : StorageOnly s t) : t.e = s.e := by
  have e := congrArg State.e k.eq
  exact e
theorem StorageOnly.h {s t : State} (k : StorageOnly s t) : t.h = s.h := by
  have e := congrArg State.h k.eq
  exact e
theorem StorageOnly.l {s t : State} (k : StorageOnly s t) : t.l = s.l := by
  have e := congrArg State.l k.eq
  exact e
theorem StorageOnly.f {s t : State} (k : StorageOnly s t) : t.f = s.f := by
  have e := congrArg State.f k.eq
  exact e
theorem StorageOnly.sp {s t : State} (k : StorageOnly s t) : t.sp = s.sp := by
  have e := congrArg State.sp k.eq
  exact e
theorem StorageOnly.pc {s t : State} (k : StorageOnly s t) : t.pc = s.pc := by
  have e := congrArg State.pc k.eq
  exact e
theorem StorageOnly.ime {s t : State} (k : StorageOnly s t) : t.ime = s.ime := by
  have e := congrArg State.ime k.eq
  exact e
theorem StorageOnly.eiPending {s t : State} (k : StorageOnly s t) : t.eiPending = s.eiPending := by
  have e := congrArg State.eiPending k.eq
  exact e
theorem StorageOnly.halted {s t : State} (k : StorageOnly s t) : t.halted = s.halted := by
  have e := congrArg State.halted k.eq
  exact e
theorem StorageOnly.haltBug {s t : State} (k : StorageOnly s t) : t.haltBug = s.haltBug := by
  have e := congrArg State.haltBug k.eq
  exact e
theorem StorageOnly.stopped {s t : State} (k : StorageOnly s t) : t.stopped = s.stopped := by
  have e := congrArg State.stopped k.eq
  exact e
theorem StorageOnly.fault {s t : State} (k : StorageOnly s t) : t.fault = s.fault := by
  have e := congrArg State.fault k.eq
  exact e
theorem StorageOnly.ticks {s t : State} (k : StorageOnly s t) : t.ticks = s.ticks := by
  have e := congrArg State.ticks k.eq
  exact e
theorem StorageOnly.clocks {s t : State} (k : StorageOnly s t) : t.clocks = s.clocks := by
  have e := congrArg State.clocks k.eq
  exact e
theorem StorageOnly.opAddr {s t : State} (k : StorageOnly s t) : t.opAddr = s.opAddr := by
  have e := congrArg State.opAddr k.eq
  exact e

@[simp] theorem busWrite_a (s : State) (x : Word) (v : Byte) : (busWrite s x v).a = s.a :=
  (busWrite_storage s x v).a
@[simp] theorem busWrite_b (s : State) (x : Word) (v : Byte) : (busWrite s x v).b = s.b :=
  (busWrite_storage s x v).b
@[simp] theorem busWrite_c (s : State) (x : Word) (v : Byte) : (busWrite s x v).c = s.c :=
  (busWrite_storage s x v).c
@[simp] theorem busWrite_d (s : State) (x : Word) (v : Byte) : (busWrite s x v).d = s.d :=
  (busWrite_storage s x v).d
@[simp] theorem busWrite_e (s : State) (x : Word) (v : Byte) : (busWrite s x v).e = s.e :=
  (busWrite_storage s x v).e
@[simp] theorem busWrite_h (s : State) (x : Word) (v : Byte) : (busWrite s x v).h = s.h :=
  (busWrite_storage s x v).h
@[simp] theorem busWrite_l (s : State) (x : Word) (v : Byte) : (busWrite s x v).l = s.l :=
  (busWrite_storage s x v).l
@[simp] theorem busWrite_f (s : State) (x : Word) (v : Byte) : (busWrite s x v).f = s.f :=
  (busWrite_storage s x v).f
@[simp] theorem busWrite_sp (s : State) (x : Word) (v : Byte) : (busWrite s x v).sp = s.sp :=
  (busWrite_storage s x v).sp
@[simp] theorem busWrite_pc (s : State) (x : Word) (v : Byte) : (busWrite s x v).pc = s.pc :=
  (busWrite_storage s x v).pc
@[simp] theorem busWrite_ime (s : State) (x : Word) (v : Byte) : (busWrite s x v).ime = s.ime :=
  (busWrite_storage s x v).ime
@[simp] theorem busWrite_eiPending (s : State) (x : Word) (v : Byte) : (busWrite s x v).eiPending = s.eiPending :=
  (busWrite_storage s x v).eiPending
@[simp] theorem busWrite_halted (s : State) (x : Word) (v : Byte) : (busWrite s x v).halted = s.halted :=
  (busWrite_storage s x v).halted
@[simp] theorem busWrite_haltBug (s : State) (x : Word) (v : Byte) : (busWrite s x v).haltBug = s.haltBug :=
  (busWrite_storage s x v).haltBug
@[simp] theorem busWrite_stopped (s : State) (x : Word) (v : Byte) : (busWrite s x v).stopped = s.stopped :=
  (busWrite_storage s x v).stopped
@[simp] theorem busWrite_fault (s : State) (x : Word) (v : Byte) : (busWrite s x v).fault = s.fault :=
  (busWrite_storage s x v).fault
@[simp] theorem busWrite_ticks (s : State) (x : Word) (v : Byte) : (busWrite s x v).ticks = s.ticks :=
  (busWrite_storage s x v).ticks
@[simp] theorem busWrite_clocks (s : State) (x : Word) (v : Byte) : (busWrite s x v).clocks = s.clocks :=
  (busWrite_storage s x v).clocks
@[simp] theorem busWrite_opAddr (s : State) (x : Word) (v : Byte) : (busWrite s x v).opAddr = s.opAddr :=
  (busWrite_storage s x v).opAddr

/-! ### memWrite, pushByte, pushWord -/

@[simp] theorem memWrite_a (s : State) (x : Word) (v : Byte) : (memWrite s x v).a = s.a :=
  busWrite_a (accessCycle s) x v
@[simp] theorem memWrite_b (s : State) (x : Word) (v : Byte) : (memWrite s x v).b = s.b :=
  busWrite_b (accessCycle s) x v
@[simp] theorem memWrite_c (s : State) (x : Word) (v : Byte) : (memWrite s x v).c = s.c :=
  busWrite_c (accessCycle s) x v
@[simp] theorem memWrite_d (s : State) (x : Word) (v : Byte) : (memWrite s x v).d = s.d :=
  busWrite_d (accessCycle s) x v
@[simp] theorem memWrite_e (s : State) (x : Word) (v : Byte) : (memWrite s x v).e = s.e :=
  busWrite_e (accessCycle s) x v
@[simp] theorem memWrite_h (s : State) (x : Word) (v : Byte) : (memWrite s x v).h = s.h :=
  busWrite_h (accessCycle s) x v
@[simp] theorem memWrite_l (s : State) (x : Word) (v : Byte) : (memWrite s x v).l = s.l :=
  busWrite_l (accessCycle s) x v
@[simp] theorem memWrite_f (s : State) (x : Word) (v : Byte) : (memWrite s x v).f = s.f :=
  busWrite_f (accessCycle s) x v
@[simp] theorem memWrite_sp (s : State) (x : Word) (v : Byte) : (memWrite s x v).sp = s.sp :=
  busWrite_sp (accessCycle s) x v
@[simp] theorem memWrite_pc (s : State) (x : Word) (v : Byte) : (memWrite s x v).pc = s.pc :=
  busWrite_pc (accessCycle s) x v
@[simp] theorem memWrite_ime (s : State) (x : Word) (v : Byte) : (memWrite s x v).ime = s.ime :=
  busWrite_ime (accessCycle s) x v
@[simp] theorem memWrite_eiPending (s : State) (x : Word) (v : Byte) : (memWrite s x v).eiPending = s.eiPending :=
  busWrite_eiPending (accessCycle s) x v
@[simp] theorem memWrite_halted (s : State) (x : Word) (v : Byte) : (memWrite s x v).halted = s.halted :=
  busWrite_halted (accessCycle s) x v
@[simp] theorem memWrite_haltBug (s : State) (x : Word) (v : Byte) : (memWrite s x v).haltBug = s.haltBug :=
  busWrite_haltBug (accessCycle s) x v
@[simp] theorem memWrite_stopped (s : State) (x : Word) (v : Byte) : (memWrite s x v).stopped = s.stopped :=
  busWrite_stopped (accessCycle s) x v
@[simp] theorem memWrite_fault (s : State) (x : Word) (v : Byte) : (memWrite s x v).fault = s.fault :=
  busWrite_fault (accessCycle s) x v
@[simp] theorem memWrite_opAddr (s : State) (x : Word) (v : Byte) : (memWrite s x v).opAddr = s.opAddr :=
  busWrite_opAddr (accessCycle s) x v
@[simp] theorem memWrite_ticks (s : State) (x : Word) (v : Byte) : (memWrite s x v).ticks = s.ticks + 4 :=
  busWrite_ticks (accessCycle s) x v
@[simp] theorem memWrite_clocks (s : State) (x : Word) (v : Byte) :
    (memWrite s x v).clocks = s.clocks + 1 := busWrite_clocks (accessCycle s) x v

@[simp] theorem pushByte_a (s : State) (v : Byte) : (pushByte s v).a = s.a :=
  memWrite_a { s with sp := s.sp - 1 } (s.sp - 1) v
@[simp] theorem pushByte_b (s : State) (v : Byte) : (pushByte s v).b = s.b :=
  memWrite_b { s with sp := s.sp - 1 } (s.sp - 1) v
@[simp] theorem pushByte_c (s : State) (v : Byte) : (pushByte s v).c = s.c :=
  memWrite_c { s with sp := s.sp - 1 } (s.sp - 1) v
@[simp] theorem pushByte_d (s : State) (v : Byte) : (pushByte s v).d = s.d :=
  memWrite_d { s with sp := s.sp - 1 } (s.sp - 1) v
@[simp] theorem pushByte_e (s : State) (v : Byte) : (pushByte s v).e = s.e :=
  memWrite_e { s with sp := s.sp - 1 } (s.sp - 1) v
@[simp] theorem pushByte_h (s : State) (v : Byte) : (pushByte s v).h = s.h :=
  memWrite_h { s with sp := s.sp - 1 } (s.sp - 1) v
@[simp] theorem pushByte_l (s : State) (v : Byte) : (pushByte s v).l = s.l :=
  memWrite_l { s with sp := s.sp - 1 } (s.sp - 1) v
@[simp] theorem pushByte_f (s : State) (v : Byte) : (pushByte s v).f = s.f :=
  memWrite_f { s with sp := s.sp - 1 } (s.sp - 1) v
@[simp] theorem pushByte_pc (s : State) (v : Byte) : (pushByte s v).pc = s.pc :=
  memWrite_pc { s with sp := s.sp - 1 } (s.sp - 1) v
@[simp] theorem pushByte_ime (s : State) (v : Byte) : (pushByte s v).ime = s.ime :=
  memWrite_ime { s with sp := s.sp - 1 } (s.sp - 1) v
@[simp] theorem pushByte_eiPending (s : State) (v : Byte) : (pushByte s v).eiPending = s.eiPending :=
  memWrite_eiPending { s with sp := s.sp - 1 } (s.sp - 1) v
@[simp] theorem pushByte_halted (s : State) (v : Byte) : (pushByte s v).halted = s.halted :=
  memWrite_halted { s with sp := s.sp - 1 } (s.sp - 1) v
@[simp] theorem pushByte_haltBug (s : State) (v : Byte) : (pushByte s v).haltBug = s.haltBug :=
  memWrite_haltBug { s with sp := s.sp - 1 } (s.sp - 1) v
@[simp] theorem pushByte_stopped (s : State) (v : Byte) : (pushByte s v).stopped = s.stopped :=
  memWrite_stopped { s with sp := s.sp - 1 } (s.sp - 1) v
@[simp] theorem pushByte_fault (s : State) (v : Byte) : (pushByte s v).fault = s.fault :=
  memWrite_fault { s with sp := s.sp - 1 } (s.sp - 1) v
@[simp] theorem pushByte_opAddr (s : State) (v : Byte) : (pushByte s v).opAddr = s.opAddr :=
  memWrite_opAddr { s with sp := s.sp - 1 } (s.sp - 1) v
@[simp] theorem pushByte_ticks (s : State) (v : Byte) : (pushByte s v).ticks = s.ticks + 4 :=
  memWrite_ticks { s with sp := s.sp - 1 } (s.sp - 1) v
@[simp] theorem pushByte_sp (s : State) (v : Byte) : (pushByte s v).sp = s.sp - 1 :=
  memWrite_sp { s with sp := s.sp - 1 } (s.sp - 1) v

/-- A 16-bit push is two byte pushes, high byte first. -/
theorem pushWord_eq (s : State) (w : Word) :
    pushWord s w = pushByte (pushByte s (hi8 w)) (lo8 w) := rfl

@[simp] theorem pushWord_a (s : State) (w : Word) : (pushWord s w).a = s.a := by
  simp only [pushWord_eq, pushByte_a]
@[simp] theorem pushWord_b (s : State) (w : Word) : (pushWord s w).b = s.b := by
  simp only [pushWord_eq, pushByte_b]
@[simp] theorem pushWord_c (s : State) (w : Word) : (pushWord s w).c = s.c := by
  simp only [pushWord_eq, pushByte_c]
@[simp] theorem pushWord_d (s : State) (w : Word) : (pushWord s w).d = s.d := by
  simp only [pushWord_eq, pushByte_d]
@[simp] theorem pushWord_e (s : State) (w : Word) : (pushWord s w).e = s.e := by
  simp only [pushWord_eq, pushByte_e]
@[simp] theorem pushWord_h (s : State) (w : Word) : (pushWord s w).h = s.h := by
  simp only [pushWord_eq, pushByte_h]
@[simp] theorem pushWord_l (s : State) (w : Word) : (pushWord s w).l = s.l := by
  simp only [pushWord_eq, pushByte_l]
@[simp] theorem pushWord_f (s : State) (w : Word) : (pushWord s w).f = s.f := by
  simp only [pushWord_eq, pushByte_f]
@[simp] theorem pushWord_pc (s : State) (w : Word) : (pushWord s w).pc = s.pc := by
  simp only [pushWord_eq, pushByte_pc]
@[simp] theorem pushWord_ime (s : State) (w : Word) : (pushWord s w).ime = s.ime := by
  simp only [pushWord_eq, pushByte_ime]
@[simp] theorem pushWord_eiPending (s : State) (w : Word) : (pushWord s w).eiPending = s.eiPending := by
  simp only [pushWord_eq, pushByte_eiPending]
@[simp] theorem pushWord_halted (s : State) (w : Word) : (pushWord s w).halted = s.halted := by
  simp only [pushWord_eq, pushByte_halted]
@[simp] theorem pushWord_haltBug (s : State) (w : Word) : (pushWord s w).haltBug = s.haltBug := by
  simp only [pushWord_eq, pushByte_haltBug]
@[simp] theorem pushWord_stopped (s : State) (w : Word) : (pushWord s w).stopped = s.stopped := by
  simp only [pushWord_eq, pushByte_stopped]
@[simp] theorem pushWord_fault (s : State) (w : Word) : (pushWord s w).fault = s.fault := by
  simp only [pushWord_eq, pushByte_fault]
@[simp] theorem pushWord_opAddr (s : State) (w : Word) : (pushWord s w).opAddr = s.opAddr := by
  simp only [pushWord_eq, pushByte_opAddr]
@[simp] theorem pushWord_ticks (s : State) (w : Word) : (pushWord s w).ticks = s.ticks + 8 := by
  simp only [pushWord_eq, pushByte_ticks]
@[simp] theorem pushWord_sp (s : State) (w : Word) : (pushWord s w).sp = s.sp - 1 - 1 := by
  simp only [pushWord_eq, pushByte_sp]

/-! ## The flat array -/

/-- A flat-array read of the address just stored to gives the byte stored. -/
theorem flatRead_flatWrite_self (s : State) (a : Word) (v : Byte) :
    flatRead (flatWrite s a v) a = v := by
  unfold flatWrite flatRead
  split_ifs with h1 h2 h3
  · rfl
  · rfl
  · exact read_write_self _ _ _ _
  · exact read_write_self _ _ _ _

/-- A flat-array store leaves every other address alone. -/
theorem flatRead_flatWrite_other (s : State) (a x : Word) (v : Byte) (h : x ≠ a) :
    flatRead (flatWrite s a v) x = flatRead s x := by
  have hn : x.toNat ≠ a.toNat := fun e => h (BitVec.eq_of_toNat_eq e)
  unfold flatWrite flatRead
  split_ifs with h1 h2 h3 h4 h5 h6 <;>
    first
      | rfl
      | exact read_write_other _ _ _ _ _ hn
      | exact absurd (by simp_all) h

@[simp] theorem flatWrite_cart (s : State) (a : Word) (v : Byte) : (flatWrite s a v).cart = s.cart := by
  unfold flatWrite; split_ifs <;> rfl

@[simp] theorem flatWrite_draws (s : State) (a : Word) (v : Byte) :
    (flatWrite s a v).draws = s.draws := by
  unfold flatWrite; split_ifs <;> rfl

/-- Outside the Peripherals' addresses a byte is read from the cartridge, IE and `mem` alone. -/
theorem busByte_congr {s t : State} {x : Word} (hx : periphOwned x = false)
    (hc : t.cart = s.cart) (he : t.ie = s.ie) (hm : t.mem = s.mem) : busByte t x = busByte s x := by
  simp only [periphOwned, Bool.or_eq_false_iff, beq_eq_false_iff_ne] at hx
  unfold busByte flatRead
  rw [hc, he, hm, hx.1.1, hx.1.2, if_neg hx.2, if_neg hx.2]
  simp only [Bool.false_eq_true, if_false]

/-- The same for the flat array. -/
theorem flatRead_congr {s t : State} {x : Word} (hx : periphOwned x = false)
    (he : t.ie = s.ie) (hm : t.mem = s.mem) : flatRead t x = flatRead s x := by
  simp only [periphOwned, Bool.or_eq_false_iff, beq_eq_false_iff_ne] at hx
  unfold flatRead
  rw [he, hm, hx.1.1, if_neg hx.2, if_neg hx.2]
  simp only [Bool.false_eq_true, if_false]

/-! ## Time -/

/-- Requests set bits of IF and clear none (R913). -/
theorem requestInterrupts_keeps (v : Byte) (k : BitVec 5) (i : Nat) (h : v.getLsbD i = true) :
    (requestInterrupts v k).getLsbD i = true := by
  simp [requestInterrupts, h]

/-- Requests leave bits 5 to 7 of IF alone (R913). -/
theorem requestInterrupts_high (v : Byte) (k : BitVec 5) (i : Nat) (h : 5 ≤ i) :
    (requestInterrupts v k).getLsbD i = v.getLsbD i := by
  have hk : k.getLsbD i = false := BitVec.getLsbD_of_ge k i h
  simp [requestInterrupts, BitVec.getLsbD_setWidth, hk]

/-- One or no clock: what is not the Peripherals' reads as before (R941). -/
theorem clockIf_busByte (p : Bool) (s : State) (x : Word) (hx : periphOwned x = false) :
    busByte (clockIf p s) x = busByte s x := busByte_congr hx rfl rfl rfl

/-- The addresses of `PERIPH_WRITABLE` are the members of its list (R9). -/
theorem mem_periphAddrs (a : Nat) : a ∈ Config.periphAddrs ↔ Config.periphWritable a = true := by
  simp only [Config.periphAddrs, List.mem_filter, List.mem_map, List.mem_range]
  constructor
  · exact fun h => h.2
  · intro h
    refine ⟨⟨a - 0xFF00, ?_, ?_⟩, h⟩ <;>
      simp [Config.periphWritable] at h <;> omega

theorem periphStores_fold (n : Nat) (l : List Nat) (io : List Host.Cell)
    (P : List Host.Cell → Prop)
    (hP : ∀ m a v, a ∈ l → P m → P (Memory.write Config.powerUp m a v)) (h : P io) :
    P (l.foldl (fun m a => match Config.periphStore n a with
      | none => m
      | some v => Memory.write Config.powerUp m a v) io) := by
  induction l generalizing io with
  | nil => exact h
  | cons a l ih =>
    simp only [List.foldl_cons]
    refine ih _ (fun m b v hb hm => hP m b v (List.mem_cons_of_mem _ hb) hm) ?_
    split
    · exact h
    · exact hP _ _ _ List.mem_cons_self h

/-- The Peripherals' stores keep their byte list canonical and in its home. -/
theorem periphStores_inv (n : Nat) (io : List Host.Cell)
    (h : Memory.wf Config.powerUp io ∧ Memory.within Config.periphWritable io) :
    Memory.wf Config.powerUp (periphStores n io) ∧
      Memory.within Config.periphWritable (periphStores n io) := by
  refine periphStores_fold n _ io
    (fun m => Memory.wf Config.powerUp m ∧ Memory.within Config.periphWritable m) ?_ h
  exact fun m a v ha hm =>
    ⟨write_wf _ m a v hm.1, write_within _ _ m a v ((mem_periphAddrs a).mp ha) hm.2⟩

/-! ## OAM DMA -/

/-- Both halves of a DMA step's frame: the cartridge stays, and so does every flat byte but one. -/
theorem oamDmaByte_cart (p : Byte) (s : State) (i : Nat) : (oamDmaByte p s i).cart = s.cart := by
  simp [oamDmaByte, peekRead]

theorem oamDmaByte_other (p : Byte) (s : State) (i : Nat) (x : Word)
    (h : x ≠ 0xFE00 + BitVec.ofNat 16 i) : flatRead (oamDmaByte p s i) x = flatRead s x := by
  unfold oamDmaByte
  rw [flatRead_flatWrite_other _ _ _ _ h]
  rfl

theorem oamDmaByte_self (p : Byte) (s : State) (i : Nat) :
    flatRead (oamDmaByte p s i) (0xFE00 + BitVec.ofNat 16 i) =
      busByte s (mkWord p 0 + BitVec.ofNat 16 i) := flatRead_flatWrite_self _ _ _


end Sys2Proof.Laws
end

