-- ==== Sys2Proof/Laws/Decode.lean ====
section
/-! SUPPORT. The two opcode maps are complete, so their defaults are never used. -/

namespace Sys2Proof.Laws

/-- The format map has 16 rows of 16 (R210). -/
theorem format_table_total : formatRows.length = 16 ∧ ∀ row ∈ formatRows, row.length = 16 := by decide

/-- The primary map has 16 rows of 16 (R210). -/
theorem primary_table_total : primaryRows.map List.length = List.replicate 16 16 := rfl

/-- The secondary map has 32 rows of 8 (R211). -/
theorem secondary_table_total :
    (secondaryRowsLow ++ secondaryRowsHigh).map List.length = List.replicate 32 8 := rfl

/-- The opcode 0xCB is the only one whose second byte selects from the secondary map (R215). -/
theorem assemble_cb (n1 n2 : Byte) : assemble 0xCB n1 n2 = secondaryInstr n1 := rfl

theorem assemble_primary (op n1 n2 : Byte) (h : op ≠ 0xCB) :
    assemble op n1 n2 = primaryInstr op n1 n2 := if_neg h

end Sys2Proof.Laws
end

