-- ==== Sys2Proof/Laws/Exec.lean ====
section
/-! SUPPORT. What `exec` answers, said once: an equation for each instruction family over its operands,
and `Ran`, the inversion of `exec` into the families, so that a proof about every instruction has one
case for each family and not one for each of the 512 rows. -/

namespace Sys2Proof.Laws

open Sys2Proof.Machine

/-! ## One equation for each family -/

theorem exec_loadRegReg (q r : Reg8) (s : State) :
    exec (.ldRegReg q r) s = .next (loadRegReg s q r) := by cases q <;> cases r <;> rfl

theorem exec_loadImm (q : Reg8) (n : Byte) (s : State) :
    exec (.ldRegImm q n) s = .next (setR8 s q n) := by cases q <;> rfl

theorem exec_loadMem (q : Reg8) (s : State) :
    exec (.ldRegMem q) s = .next (loadRegAt s q (regHL s)) := by cases q <;> rfl

theorem exec_storeReg (r : Reg8) (s : State) :
    exec (.ldMemReg r) s = .next (storeAt s (regHL s) (r8 s r)) := by cases r <;> rfl

theorem exec_loadPair (p : Reg16) (nn : Word) (s : State) :
    exec (.ldPairImm p nn) s = .next (setR16 s p nn) := by cases p <;> rfl

theorem exec_push (p : StkReg) (s : State) :
    exec (.push p) s = .next (pushPair s p) := by cases p <;> rfl

theorem exec_pop (p : StkReg) (s : State) :
    exec (.pop p) s = .next (popPair s p) := by cases p <;> rfl

theorem exec_aluReg (o : AluOp) (r : Reg8) (s : State) :
    exec (.aluReg o r) s = .next (aluWith s o (r8 s r)) := by cases o <;> cases r <;> rfl

theorem exec_aluMem (o : AluOp) (s : State) :
    exec (.aluMem o) s = .next (aluMemHL s o) := by cases o <;> rfl

theorem exec_aluImm (o : AluOp) (n : Byte) (s : State) :
    exec (.aluImm o n) s = .next (aluWith s o n) := by cases o <;> rfl

theorem exec_incReg (r : Reg8) (s : State) :
    exec (.incReg r) s = .next (incReg8 s r) := by cases r <;> rfl

theorem exec_decReg (r : Reg8) (s : State) :
    exec (.decReg r) s = .next (decReg8 s r) := by cases r <;> rfl

theorem exec_addHL (p : Reg16) (s : State) :
    exec (.addHL p) s = .next (addToHL s p) := by cases p <;> rfl

theorem exec_incPair (p : Reg16) (s : State) :
    exec (.incPair p) s = .next (stepPair s p 1) := by cases p <;> rfl

theorem exec_decPair (p : Reg16) (s : State) :
    exec (.decPair p) s = .next (stepPair s p (-1)) := by cases p <;> rfl

theorem exec_rotReg (o : RotOp) (r : Reg8) (s : State) :
    exec (.rotReg o r) s = .next (rotateReg s o r) := by cases o <;> cases r <;> rfl

theorem exec_rotMem (o : RotOp) (s : State) :
    exec (.rotMem o) s = .next (rotateMemHL s o) := by cases o <;> rfl

theorem exec_bitReg (b : Fin 8) (r : Reg8) (s : State) :
    exec (.bitReg b r) s = .next (bitTestReg s b r) := by fin_cases b <;> cases r <;> rfl

theorem exec_bitMem (b : Fin 8) (s : State) :
    exec (.bitMem b) s = .next (bitTestMemHL s b) := by fin_cases b <;> rfl

theorem exec_resReg (b : Fin 8) (r : Reg8) (s : State) :
    exec (.resReg b r) s = .next (resReg s b r) := by fin_cases b <;> cases r <;> rfl

theorem exec_resMem (b : Fin 8) (s : State) :
    exec (.resMem b) s = .next (resMemHL s b) := by fin_cases b <;> rfl

theorem exec_setReg (b : Fin 8) (r : Reg8) (s : State) :
    exec (.setReg b r) s = .next (setReg s b r) := by fin_cases b <;> cases r <;> rfl

theorem exec_setMem (b : Fin 8) (s : State) :
    exec (.setMem b) s = .next (setMemHL s b) := by fin_cases b <;> rfl

theorem exec_jpCond (k : Cond) (nn : Word) (s : State) :
    exec (.jpCond k nn) s = .next (jumpIf s k nn) := by cases k <;> rfl

theorem exec_jrCond (k : Cond) (e : Byte) (s : State) :
    exec (.jrCond k e) s = .next (jumpRelIf s k e) := by cases k <;> rfl

theorem exec_callCond (k : Cond) (nn : Word) (s : State) :
    exec (.callCond k nn) s = .next (callIf s k nn) := by cases k <;> rfl

theorem exec_retCond (k : Cond) (s : State) :
    exec (.retCond k) s = .next (returnIf s k) := by cases k <;> rfl

theorem exec_rst (y : Fin 8) (s : State) :
    exec (.rst y) s = .next (callTo s (rstTarget y)) := by fin_cases y <;> rfl

theorem exec_illegal (k : Fin 11) (s : State) :
    exec (.illegal k) s = .next (illegalOpcode s (illegalByte k)) := by fin_cases k <;> rfl

/-! ## The inversion -/

/-- `Ran i s t`: instruction `i` takes `s` to `t`. -/
inductive Ran : Instr → State → State → Prop where
  | loadRegReg (q r : Reg8) (s : State) : Ran (.ldRegReg q r) s (loadRegReg s q r)
  | loadImm (q : Reg8) (n : Byte) (s : State) : Ran (.ldRegImm q n) s (setR8 s q n)
  | loadMem (q : Reg8) (s : State) : Ran (.ldRegMem q) s (loadRegAt s q (regHL s))
  | storeReg (r : Reg8) (s : State) : Ran (.ldMemReg r) s (storeAt s (regHL s) (r8 s r))
  | loadPair (p : Reg16) (nn : Word) (s : State) : Ran (.ldPairImm p nn) s (setR16 s p nn)
  | push (p : StkReg) (s : State) : Ran (.push p) s (pushPair s p)
  | pop (p : StkReg) (s : State) : Ran (.pop p) s (popPair s p)
  | aluReg (o : AluOp) (r : Reg8) (s : State) : Ran (.aluReg o r) s (aluWith s o (r8 s r))
  | aluMem (o : AluOp) (s : State) : Ran (.aluMem o) s (aluMemHL s o)
  | aluImm (o : AluOp) (n : Byte) (s : State) : Ran (.aluImm o n) s (aluWith s o n)
  | incReg (r : Reg8) (s : State) : Ran (.incReg r) s (incReg8 s r)
  | decReg (r : Reg8) (s : State) : Ran (.decReg r) s (decReg8 s r)
  | addHL (p : Reg16) (s : State) : Ran (.addHL p) s (addToHL s p)
  | incPair (p : Reg16) (s : State) : Ran (.incPair p) s (stepPair s p 1)
  | decPair (p : Reg16) (s : State) : Ran (.decPair p) s (stepPair s p (-1))
  | rotReg (o : RotOp) (r : Reg8) (s : State) : Ran (.rotReg o r) s (rotateReg s o r)
  | rotMem (o : RotOp) (s : State) : Ran (.rotMem o) s (rotateMemHL s o)
  | bitReg (b : Fin 8) (r : Reg8) (s : State) : Ran (.bitReg b r) s (bitTestReg s b r)
  | bitMem (b : Fin 8) (s : State) : Ran (.bitMem b) s (bitTestMemHL s b)
  | resReg (b : Fin 8) (r : Reg8) (s : State) : Ran (.resReg b r) s (resReg s b r)
  | resMem (b : Fin 8) (s : State) : Ran (.resMem b) s (resMemHL s b)
  | setReg (b : Fin 8) (r : Reg8) (s : State) : Ran (.setReg b r) s (setReg s b r)
  | setMem (b : Fin 8) (s : State) : Ran (.setMem b) s (setMemHL s b)
  | jpCond (k : Cond) (nn : Word) (s : State) : Ran (.jpCond k nn) s (jumpIf s k nn)
  | jrCond (k : Cond) (e : Byte) (s : State) : Ran (.jrCond k e) s (jumpRelIf s k e)
  | callCond (k : Cond) (nn : Word) (s : State) : Ran (.callCond k nn) s (callIf s k nn)
  | retCond (k : Cond) (s : State) : Ran (.retCond k) s (returnIf s k)
  | rst (y : Fin 8) (s : State) : Ran (.rst y) s (callTo s (rstTarget y))
  | illegal (k : Fin 11) (s : State) : Ran (.illegal k) s (illegalOpcode s (illegalByte k))
  | nop (s : State) : Ran .nop s s
  | ld_atBC_a (s : State) : Ran .ld_atBC_a s (storeAt s (regBC s) s.a)
  | rlca (s : State) : Ran .rlca s (rotateA s .rlc)
  | ld_at16_sp (nn : Word) (s : State) : Ran (.ld_at16_sp nn) s (storeSP s nn)
  | ld_a_atBC (s : State) : Ran .ld_a_atBC s (loadRegAt s .a (regBC s))
  | rrca (s : State) : Ran .rrca s (rotateA s .rrc)
  | stop (s : State) : Ran .stop s { s with stopped := true }
  | ld_atDE_a (s : State) : Ran .ld_atDE_a s (storeAt s (regDE s) s.a)
  | rla (s : State) : Ran .rla s (rotateA s .rl)
  | jr_r8 (e : Byte) (s : State) : Ran (.jr_r8 e) s (jumpRel s e)
  | ld_a_atDE (s : State) : Ran .ld_a_atDE s (loadRegAt s .a (regDE s))
  | rra (s : State) : Ran .rra s (rotateA s .rr)
  | ld_atHLI_a (s : State) : Ran .ld_atHLI_a s (storeAStep s 1)
  | daa (s : State) : Ran .daa s { s with a := (daaCompute s.a s.f).1, f := (daaCompute s.a s.f).2 }
  | ld_a_atHLI (s : State) : Ran .ld_a_atHLI s (loadAStep s 1)
  | cpl (s : State) : Ran .cpl s { s with a := s.a ^^^ 0xFF, f := cplFlags s.f }
  | ld_atHLD_a (s : State) : Ran .ld_atHLD_a s (storeAStep s (-1))
  | inc_atHL (s : State) : Ran .inc_atHL s (incMemHL s)
  | dec_atHL (s : State) : Ran .dec_atHL s (decMemHL s)
  | ld_atHL_d8 (n : Byte) (s : State) : Ran (.ld_atHL_d8 n) s (storeAt s (regHL s) n)
  | scf (s : State) : Ran .scf s { s with f := scfFlags s.f }
  | ld_a_atHLD (s : State) : Ran .ld_a_atHLD s (loadAStep s (-1))
  | ccf (s : State) : Ran .ccf s { s with f := ccfFlags s.f }
  | halt (s : State) : Ran .halt s (haltCpu s)
  | jp_a16 (nn : Word) (s : State) : Ran (.jp_a16 nn) s (jumpTo s nn)
  | ret (s : State) : Ran .ret s (returnPop s)
  | call_a16 (nn : Word) (s : State) : Ran (.call_a16 nn) s (callTo s nn)
  | reti (s : State) : Ran .reti s (returnFromInterrupt s)
  | ldh_at8_a (n : Byte) (s : State) : Ran (.ldh_at8_a n) s (storeAt s (highPage n) s.a)
  | ldh_atC_a (s : State) : Ran .ldh_atC_a s (storeAt s (highPage s.c) s.a)
  | add_sp_r8 (e : Byte) (s : State) : Ran (.add_sp_r8 e) s (addToSP s e)
  | jp_hl (s : State) : Ran .jp_hl s { s with pc := regHL s }
  | ld_at16_a (nn : Word) (s : State) : Ran (.ld_at16_a nn) s (storeAt s nn s.a)
  | ldh_a_at8 (n : Byte) (s : State) : Ran (.ldh_a_at8 n) s (loadRegAt s .a (highPage n))
  | ldh_a_atC (s : State) : Ran .ldh_a_atC s (loadRegAt s .a (highPage s.c))
  | di (s : State) : Ran .di s { s with ime := false }
  | ld_hl_sp_r8 (e : Byte) (s : State) : Ran (.ld_hl_sp_r8 e) s (loadHLOffset s e)
  | ld_sp_hl (s : State) : Ran .ld_sp_hl s (copyHLtoSP s)
  | ld_a_at16 (nn : Word) (s : State) : Ran (.ld_a_at16 nn) s (loadRegAt s .a nn)
  | ei (s : State) : Ran .ei s { s with eiPending := true }
  | prefixCB (n : Byte) (s : State) : Ran (.prefix_CB n) s (secondary s n)

/-- Every instruction takes every state to a next state, and `Ran` says which. -/
theorem exec_ran (i : Instr) (s : State) : ∃ t, exec i s = .next t ∧ Ran i s t := by
  cases i with
  | nop => exact ⟨_, rfl, .nop s⟩
  | ld_bc_d16 nn => exact ⟨_, rfl, .loadPair .bc nn s⟩
  | ld_atBC_a => exact ⟨_, rfl, .ld_atBC_a s⟩
  | inc_bc => exact ⟨_, rfl, .incPair .bc s⟩
  | inc_b => exact ⟨_, rfl, .incReg .b s⟩
  | dec_b => exact ⟨_, rfl, .decReg .b s⟩
  | ld_b_d8 n => exact ⟨_, rfl, .loadImm .b n s⟩
  | rlca => exact ⟨_, rfl, .rlca s⟩
  | ld_at16_sp nn => exact ⟨_, rfl, .ld_at16_sp nn s⟩
  | add_hl_bc => exact ⟨_, rfl, .addHL .bc s⟩
  | ld_a_atBC => exact ⟨_, rfl, .ld_a_atBC s⟩
  | dec_bc => exact ⟨_, rfl, .decPair .bc s⟩
  | inc_c => exact ⟨_, rfl, .incReg .c s⟩
  | dec_c => exact ⟨_, rfl, .decReg .c s⟩
  | ld_c_d8 n => exact ⟨_, rfl, .loadImm .c n s⟩
  | rrca => exact ⟨_, rfl, .rrca s⟩
  | stop => exact ⟨_, rfl, .stop s⟩
  | ld_de_d16 nn => exact ⟨_, rfl, .loadPair .de nn s⟩
  | ld_atDE_a => exact ⟨_, rfl, .ld_atDE_a s⟩
  | inc_de => exact ⟨_, rfl, .incPair .de s⟩
  | inc_d => exact ⟨_, rfl, .incReg .d s⟩
  | dec_d => exact ⟨_, rfl, .decReg .d s⟩
  | ld_d_d8 n => exact ⟨_, rfl, .loadImm .d n s⟩
  | rla => exact ⟨_, rfl, .rla s⟩
  | jr_r8 e => exact ⟨_, rfl, .jr_r8 e s⟩
  | add_hl_de => exact ⟨_, rfl, .addHL .de s⟩
  | ld_a_atDE => exact ⟨_, rfl, .ld_a_atDE s⟩
  | dec_de => exact ⟨_, rfl, .decPair .de s⟩
  | inc_e => exact ⟨_, rfl, .incReg .e s⟩
  | dec_e => exact ⟨_, rfl, .decReg .e s⟩
  | ld_e_d8 n => exact ⟨_, rfl, .loadImm .e n s⟩
  | rra => exact ⟨_, rfl, .rra s⟩
  | jr_nz_r8 e => exact ⟨_, rfl, .jrCond .nz e s⟩
  | ld_hl_d16 nn => exact ⟨_, rfl, .loadPair .hl nn s⟩
  | ld_atHLI_a => exact ⟨_, rfl, .ld_atHLI_a s⟩
  | inc_hl => exact ⟨_, rfl, .incPair .hl s⟩
  | inc_h => exact ⟨_, rfl, .incReg .h s⟩
  | dec_h => exact ⟨_, rfl, .decReg .h s⟩
  | ld_h_d8 n => exact ⟨_, rfl, .loadImm .h n s⟩
  | daa => exact ⟨_, rfl, .daa s⟩
  | jr_z_r8 e => exact ⟨_, rfl, .jrCond .z e s⟩
  | add_hl_hl => exact ⟨_, rfl, .addHL .hl s⟩
  | ld_a_atHLI => exact ⟨_, rfl, .ld_a_atHLI s⟩
  | dec_hl => exact ⟨_, rfl, .decPair .hl s⟩
  | inc_l => exact ⟨_, rfl, .incReg .l s⟩
  | dec_l => exact ⟨_, rfl, .decReg .l s⟩
  | ld_l_d8 n => exact ⟨_, rfl, .loadImm .l n s⟩
  | cpl => exact ⟨_, rfl, .cpl s⟩
  | jr_nc_r8 e => exact ⟨_, rfl, .jrCond .nc e s⟩
  | ld_sp_d16 nn => exact ⟨_, rfl, .loadPair .sp nn s⟩
  | ld_atHLD_a => exact ⟨_, rfl, .ld_atHLD_a s⟩
  | inc_sp => exact ⟨_, rfl, .incPair .sp s⟩
  | inc_atHL => exact ⟨_, rfl, .inc_atHL s⟩
  | dec_atHL => exact ⟨_, rfl, .dec_atHL s⟩
  | ld_atHL_d8 n => exact ⟨_, rfl, .ld_atHL_d8 n s⟩
  | scf => exact ⟨_, rfl, .scf s⟩
  | jr_c_r8 e => exact ⟨_, rfl, .jrCond .c e s⟩
  | add_hl_sp => exact ⟨_, rfl, .addHL .sp s⟩
  | ld_a_atHLD => exact ⟨_, rfl, .ld_a_atHLD s⟩
  | dec_sp => exact ⟨_, rfl, .decPair .sp s⟩
  | inc_a => exact ⟨_, rfl, .incReg .a s⟩
  | dec_a => exact ⟨_, rfl, .decReg .a s⟩
  | ld_a_d8 n => exact ⟨_, rfl, .loadImm .a n s⟩
  | ccf => exact ⟨_, rfl, .ccf s⟩
  | ld_b_b => exact ⟨_, rfl, .loadRegReg .b .b s⟩
  | ld_b_c => exact ⟨_, rfl, .loadRegReg .b .c s⟩
  | ld_b_d => exact ⟨_, rfl, .loadRegReg .b .d s⟩
  | ld_b_e => exact ⟨_, rfl, .loadRegReg .b .e s⟩
  | ld_b_h => exact ⟨_, rfl, .loadRegReg .b .h s⟩
  | ld_b_l => exact ⟨_, rfl, .loadRegReg .b .l s⟩
  | ld_b_atHL => exact ⟨_, rfl, .loadMem .b s⟩
  | ld_b_a => exact ⟨_, rfl, .loadRegReg .b .a s⟩
  | ld_c_b => exact ⟨_, rfl, .loadRegReg .c .b s⟩
  | ld_c_c => exact ⟨_, rfl, .loadRegReg .c .c s⟩
  | ld_c_d => exact ⟨_, rfl, .loadRegReg .c .d s⟩
  | ld_c_e => exact ⟨_, rfl, .loadRegReg .c .e s⟩
  | ld_c_h => exact ⟨_, rfl, .loadRegReg .c .h s⟩
  | ld_c_l => exact ⟨_, rfl, .loadRegReg .c .l s⟩
  | ld_c_atHL => exact ⟨_, rfl, .loadMem .c s⟩
  | ld_c_a => exact ⟨_, rfl, .loadRegReg .c .a s⟩
  | ld_d_b => exact ⟨_, rfl, .loadRegReg .d .b s⟩
  | ld_d_c => exact ⟨_, rfl, .loadRegReg .d .c s⟩
  | ld_d_d => exact ⟨_, rfl, .loadRegReg .d .d s⟩
  | ld_d_e => exact ⟨_, rfl, .loadRegReg .d .e s⟩
  | ld_d_h => exact ⟨_, rfl, .loadRegReg .d .h s⟩
  | ld_d_l => exact ⟨_, rfl, .loadRegReg .d .l s⟩
  | ld_d_atHL => exact ⟨_, rfl, .loadMem .d s⟩
  | ld_d_a => exact ⟨_, rfl, .loadRegReg .d .a s⟩
  | ld_e_b => exact ⟨_, rfl, .loadRegReg .e .b s⟩
  | ld_e_c => exact ⟨_, rfl, .loadRegReg .e .c s⟩
  | ld_e_d => exact ⟨_, rfl, .loadRegReg .e .d s⟩
  | ld_e_e => exact ⟨_, rfl, .loadRegReg .e .e s⟩
  | ld_e_h => exact ⟨_, rfl, .loadRegReg .e .h s⟩
  | ld_e_l => exact ⟨_, rfl, .loadRegReg .e .l s⟩
  | ld_e_atHL => exact ⟨_, rfl, .loadMem .e s⟩
  | ld_e_a => exact ⟨_, rfl, .loadRegReg .e .a s⟩
  | ld_h_b => exact ⟨_, rfl, .loadRegReg .h .b s⟩
  | ld_h_c => exact ⟨_, rfl, .loadRegReg .h .c s⟩
  | ld_h_d => exact ⟨_, rfl, .loadRegReg .h .d s⟩
  | ld_h_e => exact ⟨_, rfl, .loadRegReg .h .e s⟩
  | ld_h_h => exact ⟨_, rfl, .loadRegReg .h .h s⟩
  | ld_h_l => exact ⟨_, rfl, .loadRegReg .h .l s⟩
  | ld_h_atHL => exact ⟨_, rfl, .loadMem .h s⟩
  | ld_h_a => exact ⟨_, rfl, .loadRegReg .h .a s⟩
  | ld_l_b => exact ⟨_, rfl, .loadRegReg .l .b s⟩
  | ld_l_c => exact ⟨_, rfl, .loadRegReg .l .c s⟩
  | ld_l_d => exact ⟨_, rfl, .loadRegReg .l .d s⟩
  | ld_l_e => exact ⟨_, rfl, .loadRegReg .l .e s⟩
  | ld_l_h => exact ⟨_, rfl, .loadRegReg .l .h s⟩
  | ld_l_l => exact ⟨_, rfl, .loadRegReg .l .l s⟩
  | ld_l_atHL => exact ⟨_, rfl, .loadMem .l s⟩
  | ld_l_a => exact ⟨_, rfl, .loadRegReg .l .a s⟩
  | ld_atHL_b => exact ⟨_, rfl, .storeReg .b s⟩
  | ld_atHL_c => exact ⟨_, rfl, .storeReg .c s⟩
  | ld_atHL_d => exact ⟨_, rfl, .storeReg .d s⟩
  | ld_atHL_e => exact ⟨_, rfl, .storeReg .e s⟩
  | ld_atHL_h => exact ⟨_, rfl, .storeReg .h s⟩
  | ld_atHL_l => exact ⟨_, rfl, .storeReg .l s⟩
  | halt => exact ⟨_, rfl, .halt s⟩
  | ld_atHL_a => exact ⟨_, rfl, .storeReg .a s⟩
  | ld_a_b => exact ⟨_, rfl, .loadRegReg .a .b s⟩
  | ld_a_c => exact ⟨_, rfl, .loadRegReg .a .c s⟩
  | ld_a_d => exact ⟨_, rfl, .loadRegReg .a .d s⟩
  | ld_a_e => exact ⟨_, rfl, .loadRegReg .a .e s⟩
  | ld_a_h => exact ⟨_, rfl, .loadRegReg .a .h s⟩
  | ld_a_l => exact ⟨_, rfl, .loadRegReg .a .l s⟩
  | ld_a_atHL => exact ⟨_, rfl, .loadMem .a s⟩
  | ld_a_a => exact ⟨_, rfl, .loadRegReg .a .a s⟩
  | add_a_b => exact ⟨_, rfl, .aluReg .add .b s⟩
  | add_a_c => exact ⟨_, rfl, .aluReg .add .c s⟩
  | add_a_d => exact ⟨_, rfl, .aluReg .add .d s⟩
  | add_a_e => exact ⟨_, rfl, .aluReg .add .e s⟩
  | add_a_h => exact ⟨_, rfl, .aluReg .add .h s⟩
  | add_a_l => exact ⟨_, rfl, .aluReg .add .l s⟩
  | add_a_atHL => exact ⟨_, rfl, .aluMem .add s⟩
  | add_a_a => exact ⟨_, rfl, .aluReg .add .a s⟩
  | adc_a_b => exact ⟨_, rfl, .aluReg .adc .b s⟩
  | adc_a_c => exact ⟨_, rfl, .aluReg .adc .c s⟩
  | adc_a_d => exact ⟨_, rfl, .aluReg .adc .d s⟩
  | adc_a_e => exact ⟨_, rfl, .aluReg .adc .e s⟩
  | adc_a_h => exact ⟨_, rfl, .aluReg .adc .h s⟩
  | adc_a_l => exact ⟨_, rfl, .aluReg .adc .l s⟩
  | adc_a_atHL => exact ⟨_, rfl, .aluMem .adc s⟩
  | adc_a_a => exact ⟨_, rfl, .aluReg .adc .a s⟩
  | sub_b => exact ⟨_, rfl, .aluReg .sub .b s⟩
  | sub_c => exact ⟨_, rfl, .aluReg .sub .c s⟩
  | sub_d => exact ⟨_, rfl, .aluReg .sub .d s⟩
  | sub_e => exact ⟨_, rfl, .aluReg .sub .e s⟩
  | sub_h => exact ⟨_, rfl, .aluReg .sub .h s⟩
  | sub_l => exact ⟨_, rfl, .aluReg .sub .l s⟩
  | sub_atHL => exact ⟨_, rfl, .aluMem .sub s⟩
  | sub_a => exact ⟨_, rfl, .aluReg .sub .a s⟩
  | sbc_a_b => exact ⟨_, rfl, .aluReg .sbc .b s⟩
  | sbc_a_c => exact ⟨_, rfl, .aluReg .sbc .c s⟩
  | sbc_a_d => exact ⟨_, rfl, .aluReg .sbc .d s⟩
  | sbc_a_e => exact ⟨_, rfl, .aluReg .sbc .e s⟩
  | sbc_a_h => exact ⟨_, rfl, .aluReg .sbc .h s⟩
  | sbc_a_l => exact ⟨_, rfl, .aluReg .sbc .l s⟩
  | sbc_a_atHL => exact ⟨_, rfl, .aluMem .sbc s⟩
  | sbc_a_a => exact ⟨_, rfl, .aluReg .sbc .a s⟩
  | and_b => exact ⟨_, rfl, .aluReg .and .b s⟩
  | and_c => exact ⟨_, rfl, .aluReg .and .c s⟩
  | and_d => exact ⟨_, rfl, .aluReg .and .d s⟩
  | and_e => exact ⟨_, rfl, .aluReg .and .e s⟩
  | and_h => exact ⟨_, rfl, .aluReg .and .h s⟩
  | and_l => exact ⟨_, rfl, .aluReg .and .l s⟩
  | and_atHL => exact ⟨_, rfl, .aluMem .and s⟩
  | and_a => exact ⟨_, rfl, .aluReg .and .a s⟩
  | xor_b => exact ⟨_, rfl, .aluReg .xor .b s⟩
  | xor_c => exact ⟨_, rfl, .aluReg .xor .c s⟩
  | xor_d => exact ⟨_, rfl, .aluReg .xor .d s⟩
  | xor_e => exact ⟨_, rfl, .aluReg .xor .e s⟩
  | xor_h => exact ⟨_, rfl, .aluReg .xor .h s⟩
  | xor_l => exact ⟨_, rfl, .aluReg .xor .l s⟩
  | xor_atHL => exact ⟨_, rfl, .aluMem .xor s⟩
  | xor_a => exact ⟨_, rfl, .aluReg .xor .a s⟩
  | or_b => exact ⟨_, rfl, .aluReg .or .b s⟩
  | or_c => exact ⟨_, rfl, .aluReg .or .c s⟩
  | or_d => exact ⟨_, rfl, .aluReg .or .d s⟩
  | or_e => exact ⟨_, rfl, .aluReg .or .e s⟩
  | or_h => exact ⟨_, rfl, .aluReg .or .h s⟩
  | or_l => exact ⟨_, rfl, .aluReg .or .l s⟩
  | or_atHL => exact ⟨_, rfl, .aluMem .or s⟩
  | or_a => exact ⟨_, rfl, .aluReg .or .a s⟩
  | cp_b => exact ⟨_, rfl, .aluReg .cp .b s⟩
  | cp_c => exact ⟨_, rfl, .aluReg .cp .c s⟩
  | cp_d => exact ⟨_, rfl, .aluReg .cp .d s⟩
  | cp_e => exact ⟨_, rfl, .aluReg .cp .e s⟩
  | cp_h => exact ⟨_, rfl, .aluReg .cp .h s⟩
  | cp_l => exact ⟨_, rfl, .aluReg .cp .l s⟩
  | cp_atHL => exact ⟨_, rfl, .aluMem .cp s⟩
  | cp_a => exact ⟨_, rfl, .aluReg .cp .a s⟩
  | ret_nz => exact ⟨_, rfl, .retCond .nz s⟩
  | pop_bc => exact ⟨_, rfl, .pop .bc s⟩
  | jp_nz_a16 nn => exact ⟨_, rfl, .jpCond .nz nn s⟩
  | jp_a16 nn => exact ⟨_, rfl, .jp_a16 nn s⟩
  | call_nz_a16 nn => exact ⟨_, rfl, .callCond .nz nn s⟩
  | push_bc => exact ⟨_, rfl, .push .bc s⟩
  | add_a_d8 n => exact ⟨_, rfl, .aluImm .add n s⟩
  | rst_00 => exact ⟨_, rfl, .rst 0 s⟩
  | ret_z => exact ⟨_, rfl, .retCond .z s⟩
  | ret => exact ⟨_, rfl, .ret s⟩
  | jp_z_a16 nn => exact ⟨_, rfl, .jpCond .z nn s⟩
  | prefix_CB n => exact ⟨_, rfl, .prefixCB n s⟩
  | call_z_a16 nn => exact ⟨_, rfl, .callCond .z nn s⟩
  | call_a16 nn => exact ⟨_, rfl, .call_a16 nn s⟩
  | adc_a_d8 n => exact ⟨_, rfl, .aluImm .adc n s⟩
  | rst_08 => exact ⟨_, rfl, .rst 1 s⟩
  | ret_nc => exact ⟨_, rfl, .retCond .nc s⟩
  | pop_de => exact ⟨_, rfl, .pop .de s⟩
  | jp_nc_a16 nn => exact ⟨_, rfl, .jpCond .nc nn s⟩
  | illegal_D3 => exact ⟨_, rfl, .illegal 0 s⟩
  | call_nc_a16 nn => exact ⟨_, rfl, .callCond .nc nn s⟩
  | push_de => exact ⟨_, rfl, .push .de s⟩
  | sub_d8 n => exact ⟨_, rfl, .aluImm .sub n s⟩
  | rst_10 => exact ⟨_, rfl, .rst 2 s⟩
  | ret_c => exact ⟨_, rfl, .retCond .c s⟩
  | reti => exact ⟨_, rfl, .reti s⟩
  | jp_c_a16 nn => exact ⟨_, rfl, .jpCond .c nn s⟩
  | illegal_DB => exact ⟨_, rfl, .illegal 1 s⟩
  | call_c_a16 nn => exact ⟨_, rfl, .callCond .c nn s⟩
  | illegal_DD => exact ⟨_, rfl, .illegal 2 s⟩
  | sbc_a_d8 n => exact ⟨_, rfl, .aluImm .sbc n s⟩
  | rst_18 => exact ⟨_, rfl, .rst 3 s⟩
  | ldh_at8_a n => exact ⟨_, rfl, .ldh_at8_a n s⟩
  | pop_hl => exact ⟨_, rfl, .pop .hl s⟩
  | ldh_atC_a => exact ⟨_, rfl, .ldh_atC_a s⟩
  | illegal_E3 => exact ⟨_, rfl, .illegal 3 s⟩
  | illegal_E4 => exact ⟨_, rfl, .illegal 4 s⟩
  | push_hl => exact ⟨_, rfl, .push .hl s⟩
  | and_d8 n => exact ⟨_, rfl, .aluImm .and n s⟩
  | rst_20 => exact ⟨_, rfl, .rst 4 s⟩
  | add_sp_r8 e => exact ⟨_, rfl, .add_sp_r8 e s⟩
  | jp_hl => exact ⟨_, rfl, .jp_hl s⟩
  | ld_at16_a nn => exact ⟨_, rfl, .ld_at16_a nn s⟩
  | illegal_EB => exact ⟨_, rfl, .illegal 5 s⟩
  | illegal_EC => exact ⟨_, rfl, .illegal 6 s⟩
  | illegal_ED => exact ⟨_, rfl, .illegal 7 s⟩
  | xor_d8 n => exact ⟨_, rfl, .aluImm .xor n s⟩
  | rst_28 => exact ⟨_, rfl, .rst 5 s⟩
  | ldh_a_at8 n => exact ⟨_, rfl, .ldh_a_at8 n s⟩
  | pop_af => exact ⟨_, rfl, .pop .af s⟩
  | ldh_a_atC => exact ⟨_, rfl, .ldh_a_atC s⟩
  | di => exact ⟨_, rfl, .di s⟩
  | illegal_F4 => exact ⟨_, rfl, .illegal 8 s⟩
  | push_af => exact ⟨_, rfl, .push .af s⟩
  | or_d8 n => exact ⟨_, rfl, .aluImm .or n s⟩
  | rst_30 => exact ⟨_, rfl, .rst 6 s⟩
  | ld_hl_sp_r8 e => exact ⟨_, rfl, .ld_hl_sp_r8 e s⟩
  | ld_sp_hl => exact ⟨_, rfl, .ld_sp_hl s⟩
  | ld_a_at16 nn => exact ⟨_, rfl, .ld_a_at16 nn s⟩
  | ei => exact ⟨_, rfl, .ei s⟩
  | illegal_FC => exact ⟨_, rfl, .illegal 9 s⟩
  | illegal_FD => exact ⟨_, rfl, .illegal 10 s⟩
  | cp_d8 n => exact ⟨_, rfl, .aluImm .cp n s⟩
  | rst_38 => exact ⟨_, rfl, .rst 7 s⟩
  | rlc_b => exact ⟨_, rfl, .rotReg .rlc .b s⟩
  | rlc_c => exact ⟨_, rfl, .rotReg .rlc .c s⟩
  | rlc_d => exact ⟨_, rfl, .rotReg .rlc .d s⟩
  | rlc_e => exact ⟨_, rfl, .rotReg .rlc .e s⟩
  | rlc_h => exact ⟨_, rfl, .rotReg .rlc .h s⟩
  | rlc_l => exact ⟨_, rfl, .rotReg .rlc .l s⟩
  | rlc_atHL => exact ⟨_, rfl, .rotMem .rlc s⟩
  | rlc_a => exact ⟨_, rfl, .rotReg .rlc .a s⟩
  | rrc_b => exact ⟨_, rfl, .rotReg .rrc .b s⟩
  | rrc_c => exact ⟨_, rfl, .rotReg .rrc .c s⟩
  | rrc_d => exact ⟨_, rfl, .rotReg .rrc .d s⟩
  | rrc_e => exact ⟨_, rfl, .rotReg .rrc .e s⟩
  | rrc_h => exact ⟨_, rfl, .rotReg .rrc .h s⟩
  | rrc_l => exact ⟨_, rfl, .rotReg .rrc .l s⟩
  | rrc_atHL => exact ⟨_, rfl, .rotMem .rrc s⟩
  | rrc_a => exact ⟨_, rfl, .rotReg .rrc .a s⟩
  | rl_b => exact ⟨_, rfl, .rotReg .rl .b s⟩
  | rl_c => exact ⟨_, rfl, .rotReg .rl .c s⟩
  | rl_d => exact ⟨_, rfl, .rotReg .rl .d s⟩
  | rl_e => exact ⟨_, rfl, .rotReg .rl .e s⟩
  | rl_h => exact ⟨_, rfl, .rotReg .rl .h s⟩
  | rl_l => exact ⟨_, rfl, .rotReg .rl .l s⟩
  | rl_atHL => exact ⟨_, rfl, .rotMem .rl s⟩
  | rl_a => exact ⟨_, rfl, .rotReg .rl .a s⟩
  | rr_b => exact ⟨_, rfl, .rotReg .rr .b s⟩
  | rr_c => exact ⟨_, rfl, .rotReg .rr .c s⟩
  | rr_d => exact ⟨_, rfl, .rotReg .rr .d s⟩
  | rr_e => exact ⟨_, rfl, .rotReg .rr .e s⟩
  | rr_h => exact ⟨_, rfl, .rotReg .rr .h s⟩
  | rr_l => exact ⟨_, rfl, .rotReg .rr .l s⟩
  | rr_atHL => exact ⟨_, rfl, .rotMem .rr s⟩
  | rr_a => exact ⟨_, rfl, .rotReg .rr .a s⟩
  | sla_b => exact ⟨_, rfl, .rotReg .sla .b s⟩
  | sla_c => exact ⟨_, rfl, .rotReg .sla .c s⟩
  | sla_d => exact ⟨_, rfl, .rotReg .sla .d s⟩
  | sla_e => exact ⟨_, rfl, .rotReg .sla .e s⟩
  | sla_h => exact ⟨_, rfl, .rotReg .sla .h s⟩
  | sla_l => exact ⟨_, rfl, .rotReg .sla .l s⟩
  | sla_atHL => exact ⟨_, rfl, .rotMem .sla s⟩
  | sla_a => exact ⟨_, rfl, .rotReg .sla .a s⟩
  | sra_b => exact ⟨_, rfl, .rotReg .sra .b s⟩
  | sra_c => exact ⟨_, rfl, .rotReg .sra .c s⟩
  | sra_d => exact ⟨_, rfl, .rotReg .sra .d s⟩
  | sra_e => exact ⟨_, rfl, .rotReg .sra .e s⟩
  | sra_h => exact ⟨_, rfl, .rotReg .sra .h s⟩
  | sra_l => exact ⟨_, rfl, .rotReg .sra .l s⟩
  | sra_atHL => exact ⟨_, rfl, .rotMem .sra s⟩
  | sra_a => exact ⟨_, rfl, .rotReg .sra .a s⟩
  | swap_b => exact ⟨_, rfl, .rotReg .swap .b s⟩
  | swap_c => exact ⟨_, rfl, .rotReg .swap .c s⟩
  | swap_d => exact ⟨_, rfl, .rotReg .swap .d s⟩
  | swap_e => exact ⟨_, rfl, .rotReg .swap .e s⟩
  | swap_h => exact ⟨_, rfl, .rotReg .swap .h s⟩
  | swap_l => exact ⟨_, rfl, .rotReg .swap .l s⟩
  | swap_atHL => exact ⟨_, rfl, .rotMem .swap s⟩
  | swap_a => exact ⟨_, rfl, .rotReg .swap .a s⟩
  | srl_b => exact ⟨_, rfl, .rotReg .srl .b s⟩
  | srl_c => exact ⟨_, rfl, .rotReg .srl .c s⟩
  | srl_d => exact ⟨_, rfl, .rotReg .srl .d s⟩
  | srl_e => exact ⟨_, rfl, .rotReg .srl .e s⟩
  | srl_h => exact ⟨_, rfl, .rotReg .srl .h s⟩
  | srl_l => exact ⟨_, rfl, .rotReg .srl .l s⟩
  | srl_atHL => exact ⟨_, rfl, .rotMem .srl s⟩
  | srl_a => exact ⟨_, rfl, .rotReg .srl .a s⟩
  | bit_0_b => exact ⟨_, rfl, .bitReg 0 .b s⟩
  | bit_0_c => exact ⟨_, rfl, .bitReg 0 .c s⟩
  | bit_0_d => exact ⟨_, rfl, .bitReg 0 .d s⟩
  | bit_0_e => exact ⟨_, rfl, .bitReg 0 .e s⟩
  | bit_0_h => exact ⟨_, rfl, .bitReg 0 .h s⟩
  | bit_0_l => exact ⟨_, rfl, .bitReg 0 .l s⟩
  | bit_0_atHL => exact ⟨_, rfl, .bitMem 0 s⟩
  | bit_0_a => exact ⟨_, rfl, .bitReg 0 .a s⟩
  | bit_1_b => exact ⟨_, rfl, .bitReg 1 .b s⟩
  | bit_1_c => exact ⟨_, rfl, .bitReg 1 .c s⟩
  | bit_1_d => exact ⟨_, rfl, .bitReg 1 .d s⟩
  | bit_1_e => exact ⟨_, rfl, .bitReg 1 .e s⟩
  | bit_1_h => exact ⟨_, rfl, .bitReg 1 .h s⟩
  | bit_1_l => exact ⟨_, rfl, .bitReg 1 .l s⟩
  | bit_1_atHL => exact ⟨_, rfl, .bitMem 1 s⟩
  | bit_1_a => exact ⟨_, rfl, .bitReg 1 .a s⟩
  | bit_2_b => exact ⟨_, rfl, .bitReg 2 .b s⟩
  | bit_2_c => exact ⟨_, rfl, .bitReg 2 .c s⟩
  | bit_2_d => exact ⟨_, rfl, .bitReg 2 .d s⟩
  | bit_2_e => exact ⟨_, rfl, .bitReg 2 .e s⟩
  | bit_2_h => exact ⟨_, rfl, .bitReg 2 .h s⟩
  | bit_2_l => exact ⟨_, rfl, .bitReg 2 .l s⟩
  | bit_2_atHL => exact ⟨_, rfl, .bitMem 2 s⟩
  | bit_2_a => exact ⟨_, rfl, .bitReg 2 .a s⟩
  | bit_3_b => exact ⟨_, rfl, .bitReg 3 .b s⟩
  | bit_3_c => exact ⟨_, rfl, .bitReg 3 .c s⟩
  | bit_3_d => exact ⟨_, rfl, .bitReg 3 .d s⟩
  | bit_3_e => exact ⟨_, rfl, .bitReg 3 .e s⟩
  | bit_3_h => exact ⟨_, rfl, .bitReg 3 .h s⟩
  | bit_3_l => exact ⟨_, rfl, .bitReg 3 .l s⟩
  | bit_3_atHL => exact ⟨_, rfl, .bitMem 3 s⟩
  | bit_3_a => exact ⟨_, rfl, .bitReg 3 .a s⟩
  | bit_4_b => exact ⟨_, rfl, .bitReg 4 .b s⟩
  | bit_4_c => exact ⟨_, rfl, .bitReg 4 .c s⟩
  | bit_4_d => exact ⟨_, rfl, .bitReg 4 .d s⟩
  | bit_4_e => exact ⟨_, rfl, .bitReg 4 .e s⟩
  | bit_4_h => exact ⟨_, rfl, .bitReg 4 .h s⟩
  | bit_4_l => exact ⟨_, rfl, .bitReg 4 .l s⟩
  | bit_4_atHL => exact ⟨_, rfl, .bitMem 4 s⟩
  | bit_4_a => exact ⟨_, rfl, .bitReg 4 .a s⟩
  | bit_5_b => exact ⟨_, rfl, .bitReg 5 .b s⟩
  | bit_5_c => exact ⟨_, rfl, .bitReg 5 .c s⟩
  | bit_5_d => exact ⟨_, rfl, .bitReg 5 .d s⟩
  | bit_5_e => exact ⟨_, rfl, .bitReg 5 .e s⟩
  | bit_5_h => exact ⟨_, rfl, .bitReg 5 .h s⟩
  | bit_5_l => exact ⟨_, rfl, .bitReg 5 .l s⟩
  | bit_5_atHL => exact ⟨_, rfl, .bitMem 5 s⟩
  | bit_5_a => exact ⟨_, rfl, .bitReg 5 .a s⟩
  | bit_6_b => exact ⟨_, rfl, .bitReg 6 .b s⟩
  | bit_6_c => exact ⟨_, rfl, .bitReg 6 .c s⟩
  | bit_6_d => exact ⟨_, rfl, .bitReg 6 .d s⟩
  | bit_6_e => exact ⟨_, rfl, .bitReg 6 .e s⟩
  | bit_6_h => exact ⟨_, rfl, .bitReg 6 .h s⟩
  | bit_6_l => exact ⟨_, rfl, .bitReg 6 .l s⟩
  | bit_6_atHL => exact ⟨_, rfl, .bitMem 6 s⟩
  | bit_6_a => exact ⟨_, rfl, .bitReg 6 .a s⟩
  | bit_7_b => exact ⟨_, rfl, .bitReg 7 .b s⟩
  | bit_7_c => exact ⟨_, rfl, .bitReg 7 .c s⟩
  | bit_7_d => exact ⟨_, rfl, .bitReg 7 .d s⟩
  | bit_7_e => exact ⟨_, rfl, .bitReg 7 .e s⟩
  | bit_7_h => exact ⟨_, rfl, .bitReg 7 .h s⟩
  | bit_7_l => exact ⟨_, rfl, .bitReg 7 .l s⟩
  | bit_7_atHL => exact ⟨_, rfl, .bitMem 7 s⟩
  | bit_7_a => exact ⟨_, rfl, .bitReg 7 .a s⟩
  | res_0_b => exact ⟨_, rfl, .resReg 0 .b s⟩
  | res_0_c => exact ⟨_, rfl, .resReg 0 .c s⟩
  | res_0_d => exact ⟨_, rfl, .resReg 0 .d s⟩
  | res_0_e => exact ⟨_, rfl, .resReg 0 .e s⟩
  | res_0_h => exact ⟨_, rfl, .resReg 0 .h s⟩
  | res_0_l => exact ⟨_, rfl, .resReg 0 .l s⟩
  | res_0_atHL => exact ⟨_, rfl, .resMem 0 s⟩
  | res_0_a => exact ⟨_, rfl, .resReg 0 .a s⟩
  | res_1_b => exact ⟨_, rfl, .resReg 1 .b s⟩
  | res_1_c => exact ⟨_, rfl, .resReg 1 .c s⟩
  | res_1_d => exact ⟨_, rfl, .resReg 1 .d s⟩
  | res_1_e => exact ⟨_, rfl, .resReg 1 .e s⟩
  | res_1_h => exact ⟨_, rfl, .resReg 1 .h s⟩
  | res_1_l => exact ⟨_, rfl, .resReg 1 .l s⟩
  | res_1_atHL => exact ⟨_, rfl, .resMem 1 s⟩
  | res_1_a => exact ⟨_, rfl, .resReg 1 .a s⟩
  | res_2_b => exact ⟨_, rfl, .resReg 2 .b s⟩
  | res_2_c => exact ⟨_, rfl, .resReg 2 .c s⟩
  | res_2_d => exact ⟨_, rfl, .resReg 2 .d s⟩
  | res_2_e => exact ⟨_, rfl, .resReg 2 .e s⟩
  | res_2_h => exact ⟨_, rfl, .resReg 2 .h s⟩
  | res_2_l => exact ⟨_, rfl, .resReg 2 .l s⟩
  | res_2_atHL => exact ⟨_, rfl, .resMem 2 s⟩
  | res_2_a => exact ⟨_, rfl, .resReg 2 .a s⟩
  | res_3_b => exact ⟨_, rfl, .resReg 3 .b s⟩
  | res_3_c => exact ⟨_, rfl, .resReg 3 .c s⟩
  | res_3_d => exact ⟨_, rfl, .resReg 3 .d s⟩
  | res_3_e => exact ⟨_, rfl, .resReg 3 .e s⟩
  | res_3_h => exact ⟨_, rfl, .resReg 3 .h s⟩
  | res_3_l => exact ⟨_, rfl, .resReg 3 .l s⟩
  | res_3_atHL => exact ⟨_, rfl, .resMem 3 s⟩
  | res_3_a => exact ⟨_, rfl, .resReg 3 .a s⟩
  | res_4_b => exact ⟨_, rfl, .resReg 4 .b s⟩
  | res_4_c => exact ⟨_, rfl, .resReg 4 .c s⟩
  | res_4_d => exact ⟨_, rfl, .resReg 4 .d s⟩
  | res_4_e => exact ⟨_, rfl, .resReg 4 .e s⟩
  | res_4_h => exact ⟨_, rfl, .resReg 4 .h s⟩
  | res_4_l => exact ⟨_, rfl, .resReg 4 .l s⟩
  | res_4_atHL => exact ⟨_, rfl, .resMem 4 s⟩
  | res_4_a => exact ⟨_, rfl, .resReg 4 .a s⟩
  | res_5_b => exact ⟨_, rfl, .resReg 5 .b s⟩
  | res_5_c => exact ⟨_, rfl, .resReg 5 .c s⟩
  | res_5_d => exact ⟨_, rfl, .resReg 5 .d s⟩
  | res_5_e => exact ⟨_, rfl, .resReg 5 .e s⟩
  | res_5_h => exact ⟨_, rfl, .resReg 5 .h s⟩
  | res_5_l => exact ⟨_, rfl, .resReg 5 .l s⟩
  | res_5_atHL => exact ⟨_, rfl, .resMem 5 s⟩
  | res_5_a => exact ⟨_, rfl, .resReg 5 .a s⟩
  | res_6_b => exact ⟨_, rfl, .resReg 6 .b s⟩
  | res_6_c => exact ⟨_, rfl, .resReg 6 .c s⟩
  | res_6_d => exact ⟨_, rfl, .resReg 6 .d s⟩
  | res_6_e => exact ⟨_, rfl, .resReg 6 .e s⟩
  | res_6_h => exact ⟨_, rfl, .resReg 6 .h s⟩
  | res_6_l => exact ⟨_, rfl, .resReg 6 .l s⟩
  | res_6_atHL => exact ⟨_, rfl, .resMem 6 s⟩
  | res_6_a => exact ⟨_, rfl, .resReg 6 .a s⟩
  | res_7_b => exact ⟨_, rfl, .resReg 7 .b s⟩
  | res_7_c => exact ⟨_, rfl, .resReg 7 .c s⟩
  | res_7_d => exact ⟨_, rfl, .resReg 7 .d s⟩
  | res_7_e => exact ⟨_, rfl, .resReg 7 .e s⟩
  | res_7_h => exact ⟨_, rfl, .resReg 7 .h s⟩
  | res_7_l => exact ⟨_, rfl, .resReg 7 .l s⟩
  | res_7_atHL => exact ⟨_, rfl, .resMem 7 s⟩
  | res_7_a => exact ⟨_, rfl, .resReg 7 .a s⟩
  | set_0_b => exact ⟨_, rfl, .setReg 0 .b s⟩
  | set_0_c => exact ⟨_, rfl, .setReg 0 .c s⟩
  | set_0_d => exact ⟨_, rfl, .setReg 0 .d s⟩
  | set_0_e => exact ⟨_, rfl, .setReg 0 .e s⟩
  | set_0_h => exact ⟨_, rfl, .setReg 0 .h s⟩
  | set_0_l => exact ⟨_, rfl, .setReg 0 .l s⟩
  | set_0_atHL => exact ⟨_, rfl, .setMem 0 s⟩
  | set_0_a => exact ⟨_, rfl, .setReg 0 .a s⟩
  | set_1_b => exact ⟨_, rfl, .setReg 1 .b s⟩
  | set_1_c => exact ⟨_, rfl, .setReg 1 .c s⟩
  | set_1_d => exact ⟨_, rfl, .setReg 1 .d s⟩
  | set_1_e => exact ⟨_, rfl, .setReg 1 .e s⟩
  | set_1_h => exact ⟨_, rfl, .setReg 1 .h s⟩
  | set_1_l => exact ⟨_, rfl, .setReg 1 .l s⟩
  | set_1_atHL => exact ⟨_, rfl, .setMem 1 s⟩
  | set_1_a => exact ⟨_, rfl, .setReg 1 .a s⟩
  | set_2_b => exact ⟨_, rfl, .setReg 2 .b s⟩
  | set_2_c => exact ⟨_, rfl, .setReg 2 .c s⟩
  | set_2_d => exact ⟨_, rfl, .setReg 2 .d s⟩
  | set_2_e => exact ⟨_, rfl, .setReg 2 .e s⟩
  | set_2_h => exact ⟨_, rfl, .setReg 2 .h s⟩
  | set_2_l => exact ⟨_, rfl, .setReg 2 .l s⟩
  | set_2_atHL => exact ⟨_, rfl, .setMem 2 s⟩
  | set_2_a => exact ⟨_, rfl, .setReg 2 .a s⟩
  | set_3_b => exact ⟨_, rfl, .setReg 3 .b s⟩
  | set_3_c => exact ⟨_, rfl, .setReg 3 .c s⟩
  | set_3_d => exact ⟨_, rfl, .setReg 3 .d s⟩
  | set_3_e => exact ⟨_, rfl, .setReg 3 .e s⟩
  | set_3_h => exact ⟨_, rfl, .setReg 3 .h s⟩
  | set_3_l => exact ⟨_, rfl, .setReg 3 .l s⟩
  | set_3_atHL => exact ⟨_, rfl, .setMem 3 s⟩
  | set_3_a => exact ⟨_, rfl, .setReg 3 .a s⟩
  | set_4_b => exact ⟨_, rfl, .setReg 4 .b s⟩
  | set_4_c => exact ⟨_, rfl, .setReg 4 .c s⟩
  | set_4_d => exact ⟨_, rfl, .setReg 4 .d s⟩
  | set_4_e => exact ⟨_, rfl, .setReg 4 .e s⟩
  | set_4_h => exact ⟨_, rfl, .setReg 4 .h s⟩
  | set_4_l => exact ⟨_, rfl, .setReg 4 .l s⟩
  | set_4_atHL => exact ⟨_, rfl, .setMem 4 s⟩
  | set_4_a => exact ⟨_, rfl, .setReg 4 .a s⟩
  | set_5_b => exact ⟨_, rfl, .setReg 5 .b s⟩
  | set_5_c => exact ⟨_, rfl, .setReg 5 .c s⟩
  | set_5_d => exact ⟨_, rfl, .setReg 5 .d s⟩
  | set_5_e => exact ⟨_, rfl, .setReg 5 .e s⟩
  | set_5_h => exact ⟨_, rfl, .setReg 5 .h s⟩
  | set_5_l => exact ⟨_, rfl, .setReg 5 .l s⟩
  | set_5_atHL => exact ⟨_, rfl, .setMem 5 s⟩
  | set_5_a => exact ⟨_, rfl, .setReg 5 .a s⟩
  | set_6_b => exact ⟨_, rfl, .setReg 6 .b s⟩
  | set_6_c => exact ⟨_, rfl, .setReg 6 .c s⟩
  | set_6_d => exact ⟨_, rfl, .setReg 6 .d s⟩
  | set_6_e => exact ⟨_, rfl, .setReg 6 .e s⟩
  | set_6_h => exact ⟨_, rfl, .setReg 6 .h s⟩
  | set_6_l => exact ⟨_, rfl, .setReg 6 .l s⟩
  | set_6_atHL => exact ⟨_, rfl, .setMem 6 s⟩
  | set_6_a => exact ⟨_, rfl, .setReg 6 .a s⟩
  | set_7_b => exact ⟨_, rfl, .setReg 7 .b s⟩
  | set_7_c => exact ⟨_, rfl, .setReg 7 .c s⟩
  | set_7_d => exact ⟨_, rfl, .setReg 7 .d s⟩
  | set_7_e => exact ⟨_, rfl, .setReg 7 .e s⟩
  | set_7_h => exact ⟨_, rfl, .setReg 7 .h s⟩
  | set_7_l => exact ⟨_, rfl, .setReg 7 .l s⟩
  | set_7_atHL => exact ⟨_, rfl, .setMem 7 s⟩
  | set_7_a => exact ⟨_, rfl, .setReg 7 .a s⟩

/-- The state an instruction answers is the one `Ran` gives. -/
theorem ran_of_exec {i : Instr} {s t : State} (h : exec i s = .next t) : Ran i s t := by
  obtain ⟨u, hu, r⟩ := exec_ran i s
  have e : Host.Outcome.next u = Host.Outcome.next t := hu.symm.trans h
  cases e
  exact r

/-- No instruction is refused and none faults outright. -/
theorem exec_next (i : Instr) (s : State) : ∃ t, exec i s = .next t :=
  let ⟨t, h, _⟩ := exec_ran i s
  ⟨t, h⟩

/-- What ClockCpu can do: nothing in the fault state, an idle cycle while it waits, else the fetched
instruction (R201). -/
theorem clockCpu_cases {s t : State} (h : clockCpu s = .next t) :
    (s.fault.isSome = true ∧ t = s) ∨
    (s.fault = none ∧ (s.halted = true ∨ s.stopped = true) ∧ t = idleCycle s) ∨
    (s.fault = none ∧ s.halted = false ∧ s.stopped = false ∧
      Ran (fetchInstr s).1 (fetchInstr s).2 t) := by
  unfold clockCpu at h
  split_ifs at h with h1 h2
  · cases h
    exact .inl ⟨h1, rfl⟩
  · cases h
    refine .inr (.inl ⟨?_, ?_, rfl⟩)
    · simpa using h1
    · simpa using h2
  · refine .inr (.inr ⟨?_, ?_, ?_, ran_of_exec h⟩)
    · simpa using h1
    · simp at h2
      exact h2.1
    · simp at h2
      exact h2.2

/-- What a step that answers a next state is: ClockCpu, then HandleInterrupts, ticks from zero
(R1020). -/
theorem coreStep_cases {s t : State} (h : coreStep s = .next t) :
    ∃ u, clockCpu { s with ticks := 0 } = .next u ∧ t = handleInterrupts u := by
  unfold coreStep at h
  split_ifs at h
  cases hc : clockCpu { s with ticks := 0 } with
  | next u =>
    rw [hc] at h
    cases h
    exact ⟨u, rfl, rfl⟩
  | fault x =>
    rw [hc] at h
    cases h
  | refused x =>
    rw [hc] at h
    cases h

end Sys2Proof.Laws
end

