-- ==== Sys2Proof/Laws/Ops.lean ====
section
/-! SUPPORT. One lemma for each shared operation of Machine/Ops.lean, in the vocabulary of Safety.lean:
M-cycles wait, reads wait, a MemWrite is a store cycle, and the interrupt to serve is the lowest pending
one. -/

namespace Sys2Proof.Laws

open Sys2Proof.Machine

/-! ## Waiting -/

theorem requested_refl (v : Byte) : Requested v v := fun _ => ⟨id, fun _ => rfl⟩

theorem requested_trans {u v w : Byte} (h : Requested u v) (k : Requested v w) : Requested u w :=
  fun i => ⟨fun x => (k i).1 ((h i).1 x), fun x => ((k i).2 x).trans ((h i).2 x)⟩

theorem requested_requestInterrupts (v : Byte) (k : BitVec 5) : Requested v (requestInterrupts v k) :=
  fun i => ⟨requestInterrupts_keeps v k i, requestInterrupts_high v k i⟩

theorem sameRegs_refl (s : State) : SameRegs s s := ⟨fun _ _ => rfl, rfl, rfl, rfl⟩

theorem sameRegs_trans {s t u : State} (h : SameRegs s t) (k : SameRegs t u) : SameRegs s u :=
  ⟨fun q hq => (k.regs q hq).trans (h.regs q hq), k.f.trans h.f, k.sp.trans h.sp, k.pc.trans h.pc⟩

theorem sameHidden_refl (s : State) : SameHidden s s := ⟨rfl, rfl, rfl, rfl, rfl, rfl, rfl⟩

theorem sameHidden_trans {s t u : State} (h : SameHidden s t) (k : SameHidden t u) : SameHidden s u :=
  ⟨k.ime.trans h.ime, k.eiPending.trans h.eiPending, k.halted.trans h.halted,
   k.haltBug.trans h.haltBug, k.stopped.trans h.stopped, k.fault.trans h.fault,
   k.opAddr.trans h.opAddr⟩

/-- Registers alone changed: no M-cycle has passed. -/
theorem regsOnly_waits {s t : State} (h : RegsOnly s t) : Waits 0 s t := by
  unfold RegsOnly at h
  refine ⟨⟨?_, ?_, ?_, ?_, ?_, ?_, ?_⟩, ?_, ?_, ?_, ?_, ?_⟩
  · have e := congrArg State.ime h
    exact e
  · have e := congrArg State.eiPending h
    exact e
  · have e := congrArg State.halted h
    exact e
  · have e := congrArg State.haltBug h
    exact e
  · have e := congrArg State.stopped h
    exact e
  · have e := congrArg State.fault h
    exact e
  · have e := congrArg State.opAddr h
    exact e
  · have e := congrArg State.cart h
    exact e
  · have e := congrArg State.ie h
    exact e
  · have e := congrArg State.iflag h
    have e' : t.iflag = s.iflag := e
    rw [e']
    exact requested_refl _
  · intro x hx
    have e1 := congrArg State.cart h
    have e2 := congrArg State.ie h
    have e3 := congrArg State.mem h
    exact busByte_congr hx e1 e2 e3
  · have e := congrArg State.ticks h
    exact e

theorem waits_trans {m n : Nat} {s t u : State} (h : Waits m s t) (k : Waits n t u) :
    Waits (m + n) s u :=
  ⟨sameHidden_trans h.hidden k.hidden, k.cart.trans h.cart, k.ie.trans h.ie, requested_trans h.iflag k.iflag,
   fun x hx => (k.bytes x hx).trans (h.bytes x hx), by have := h.ticks; have := k.ticks; omega⟩

/-- A change of registers after the M-cycles leaves them what they were. -/
theorem waits_regs {n : Nat} {s t u : State} (h : Waits n s t) (k : RegsOnly t u) : Waits n s u :=
  waits_trans h (regsOnly_waits k)

theorem accessCycle_waits (s : State) : Waits 1 s (accessCycle s) :=
  ⟨⟨rfl, rfl, rfl, rfl, rfl, rfl, rfl⟩, rfl, rfl, requested_requestInterrupts _ _,
   fun _ hx => busByte_congr hx rfl rfl rfl, rfl⟩

theorem internal_waits (s : State) : Waits 1 s (internal s) := by
  refine ⟨⟨rfl, rfl, rfl, rfl, rfl, rfl, rfl⟩, rfl, rfl, ?_,
    fun _ hx => busByte_congr hx rfl rfl rfl, rfl⟩
  show Requested s.iflag (clockIf _ s).iflag
  unfold clockIf
  cases Config.tickPolicy == .perMCycle
  · exact requested_refl _
  · exact requested_requestInterrupts _ _

theorem memRead_waits (s : State) (a : Word) : Waits 1 s (memRead s a).2 :=
  ⟨⟨rfl, rfl, rfl, rfl, rfl, rfl, rfl⟩, rfl, rfl, requested_requestInterrupts _ _,
   fun _ hx => busByte_congr hx rfl rfl rfl, rfl⟩

theorem accessCycle_regs (s : State) : SameRegs s (accessCycle s) :=
  ⟨fun q _ => by cases q <;> rfl, rfl, rfl, rfl⟩

theorem internal_regs (s : State) : SameRegs s (internal s) :=
  ⟨fun q _ => by cases q <;> rfl, rfl, rfl, rfl⟩

theorem memRead_regs (s : State) (a : Word) : SameRegs s (memRead s a).2 :=
  ⟨fun q _ => by cases q <;> rfl, rfl, rfl, rfl⟩

/-- The byte a MemRead delivers: the bus byte after the M-cycle's tick (R12, R111). -/
theorem memRead_fst (s : State) (a : Word) : (memRead s a).1 = busByte (accessCycle s) a := rfl

/-- A pop waits one M-cycle and moves SP. -/
theorem popByte_waits (s : State) : Waits 1 s (popByte s).2 := by
  rw [popByte_snd]
  exact waits_regs (memRead_waits s s.sp) rfl

theorem popByte_fst (s : State) : (popByte s).1 = busByte (accessCycle s) s.sp := rfl

theorem popWord_waits (s : State) : Waits 2 s (popWord s).2 := by
  rw [popWord_snd]
  exact waits_trans (popByte_waits s) (popByte_waits _)

/-! ## Delivered clocks -/

/-- An internal M-cycle delivers `Clock(4)` under PER_MCYCLE and nothing under PER_ACCESS (R12). -/
theorem internal_clocks (s : State) :
    (internal s).clocks = s.clocks + if Config.tickPolicy = .perMCycle then 1 else 0 := by
  show (clockIf _ s).clocks = _
  unfold clockIf
  cases Config.tickPolicy <;> rfl

@[simp] theorem popWord_clocks (s : State) : (popWord s).2.clocks = s.clocks + 2 := rfl

@[simp] theorem pushWord_clocks (s : State) (w : Word) : (pushWord s w).clocks = s.clocks + 2 := by
  simp [pushWord, pushByte]

/-- A dispatch delivers its two pushes' clocks, and its three internal ones by the policy (R921). -/
theorem dispatch_clocks (s : State) (k : Fin 5) :
    (dispatch s k).clocks = s.clocks + 2 + 3 * if Config.tickPolicy = .perMCycle then 1 else 0 := by
  simp only [dispatch, internal_clocks, pushWord_clocks]
  omega

/-! ## OAM DMA -/

/-- The address of the `i`-th DMA target byte. -/
theorem dmaTarget_toNat (i : Nat) (hi : i < 160) :
    ((0xFE00 : Word) + BitVec.ofNat 16 i).toNat = 0xFE00 + i := by
  have h0 : (0xFE00 : Word).toNat = 0xFE00 := rfl
  rw [BitVec.toNat_add, BitVec.toNat_ofNat, h0]
  omega

/-- No step of the copy touches the cartridge, IE, IF or the Peripherals' bytes; the first `n` bytes are
copied and every other flat byte stays. -/
theorem oamDmaByte_homes (p : Byte) (s : State) (i : Nat) (hi : i < 160) :
    (oamDmaByte p s i).ie = s.ie ∧ (oamDmaByte p s i).iflag = s.iflag ∧
      (oamDmaByte p s i).io = s.io := by
  have ha := dmaTarget_toNat i hi
  have h1 : (0xFE00 : Word) + BitVec.ofNat 16 i ≠ 0xFFFF := fun e => by
    have := congrArg BitVec.toNat e; rw [ha] at this; simp at this; omega
  have h2 : (0xFE00 : Word) + BitVec.ofNat 16 i ≠ 0xFF0F := fun e => by
    have := congrArg BitVec.toNat e; rw [ha] at this; simp at this; omega
  have h3 : Config.periphWritable (0xFE00 + i) = false := by
    simp [Config.periphWritable]; omega
  unfold oamDmaByte
  simp only [flatWrite, if_neg h1, if_neg h2, ha, h3]
  exact ⟨rfl, rfl, rfl⟩


/-- The address of the `i`-th DMA source byte. -/
theorem dmaSource_toNat (p : Byte) (i : Nat) (hi : i < 160) :
    (mkWord p 0 + BitVec.ofNat 16 i).toNat = 256 * p.toNat + i := by
  have hp := p.isLt
  have h0 : (mkWord p 0).toNat = 256 * p.toNat := by
    simp only [mkWord, BitVec.toNat_append]
    simp [Nat.shiftLeft_eq, Nat.mul_comm]
  simp only [BitVec.toNat_add, BitVec.toNat_ofNat, h0]
  omega

/-- Two states with the same cartridge that agree on the flat byte at an address show the same bus byte
there. -/
theorem busByte_of_flat {s t : State} {x : Word} (hx : periphOwned x = false)
    (hc : t.cart = s.cart) (hf : flatRead t x = flatRead s x) : busByte t x = busByte s x := by
  simp only [periphOwned, Bool.or_eq_false_iff, beq_eq_false_iff_ne] at hx
  unfold busByte
  rw [hc, hf, hx.1.2]
  simp only [Bool.false_eq_true, if_false]

/-- The first `n` bytes of the DMA copy, and everything it leaves alone. -/
structure DmaDone (p : Byte) (n : Nat) (s t : State) : Prop where
  cart : t.cart = s.cart
  ie : t.ie = s.ie
  iflag : t.iflag = s.iflag
  io : t.io = s.io
  copied : ∀ i < n, periphOwned (mkWord p 0 + BitVec.ofNat 16 i) = false →
    flatRead t (0xFE00 + BitVec.ofNat 16 i) = busByte s (mkWord p 0 + BitVec.ofNat 16 i)
  others : ∀ x : Word, ¬(0xFE00 ≤ x.toNat ∧ x.toNat < 0xFE00 + n) → flatRead t x = flatRead s x

theorem oamDmaFold_done (p : Byte) (s : State) (n : Nat) (hn : n ≤ 160) :
    DmaDone p n s ((List.range n).foldl (oamDmaByte p) s) := by
  induction n with
  | zero => exact ⟨rfl, rfl, rfl, rfl, fun i hi => absurd hi (Nat.not_lt_zero i), fun _ _ => rfl⟩
  | succ n ih =>
    have d := ih (by omega)
    rw [List.range_succ, List.foldl_append]
    generalize (List.range n).foldl (oamDmaByte p) s = m at d
    simp only [List.foldl_cons, List.foldl_nil]
    have hh := oamDmaByte_homes p m n (by omega)
    refine ⟨(oamDmaByte_cart p m n).trans d.cart, hh.1.trans d.ie, hh.2.1.trans d.iflag,
      hh.2.2.trans d.io, ?_, ?_⟩
    · intro i hi ho
      by_cases e : i = n
      · subst e
        rw [oamDmaByte_self]
        refine busByte_of_flat ho d.cart (d.others _ ?_)
        rw [dmaSource_toNat p i (by omega)]
        omega
      · rw [oamDmaByte_other _ _ _ _ ?_]
        · exact d.copied i (by omega) ho
        · intro h
          have h' := congrArg BitVec.toNat h
          rw [dmaTarget_toNat i (by omega), dmaTarget_toNat n (by omega)] at h'
          omega
    · intro x hx
      rw [oamDmaByte_other _ _ _ _ ?_]
      · exact d.others x (by omega)
      · intro h
        have h' := congrArg BitVec.toNat h
        rw [dmaTarget_toNat n (by omega)] at h'
        omega

/-- The whole copy (R120). -/
theorem oamDma_done (s : State) (v : Byte) : DmaDone v 160 s (oamDma s v) :=
  oamDmaFold_done v s 160 (Nat.le_refl _)

/-! ## Stores -/

theorem sameRegs_of_storage {s t : State} (k : StorageOnly s t) : SameRegs s t := by
  refine ⟨fun q _ => ?_, k.f, k.sp, k.pc⟩
  cases q
  · exact k.b
  · exact k.c
  · exact k.d
  · exact k.e
  · exact k.h
  · exact k.l
  · exact k.a

theorem sameHidden_of_storage {s t : State} (k : StorageOnly s t) : SameHidden s t :=
  ⟨k.ime, k.eiPending, k.halted, k.haltBug, k.stopped, k.fault, k.opAddr⟩

/-- The cartridge after a bus write (R102). -/
theorem busWrite_cart (s : State) (a : Word) (v : Byte) :
    (busWrite s a v).cart =
      if a.toNat < 0x8000 then writeToRom s.cart a.toNat v (Config.rtcNow s.draws)
      else if inExternal a then writeExternal s.cart a.toNat v
      else s.cart := by
  simp only [busWrite, inExternal, decide_eq_true_eq]
  split_ifs
  · rfl
  · rfl
  · rfl
  · exact (oamDma_done s v).cart
  · exact flatWrite_cart s a v

/-- IE after a bus write. -/
theorem busWrite_ie (s : State) (a : Word) (v : Byte) :
    (busWrite s a v).ie = if a = 0xFFFF then v else s.ie := by
  unfold busWrite
  by_cases e : a = 0xFFFF
  · subst e
    rfl
  · rw [if_neg e]
    split_ifs
    · rfl
    · rfl
    · rfl
    · exact (oamDma_done s v).ie
    · unfold flatWrite
      split_ifs <;> rfl

/-- IF after a bus write. -/
theorem busWrite_iflag (s : State) (a : Word) (v : Byte) :
    (busWrite s a v).iflag = if a = 0xFF0F then v else s.iflag := by
  unfold busWrite
  by_cases e : a = 0xFF0F
  · subst e
    rfl
  · rw [if_neg e]
    split_ifs
    · rfl
    · rfl
    · rfl
    · exact (oamDma_done s v).iflag
    · unfold flatWrite
      split_ifs <;> rfl

/-- A store into the flat array is read back from it. -/
theorem busWrite_stored (s : State) (a : Word) (v : Byte) (h : storesFlat a = true) :
    flatRead (busWrite s a v) a = v := by
  simp only [storesFlat, inExternal, Bool.and_eq_true, decide_eq_true_eq, Bool.not_eq_true',
    decide_eq_false_iff_not, bne_iff_ne] at h
  obtain ⟨⟨⟨h1, h2⟩, h3⟩, h4⟩ := h
  unfold busWrite
  rw [if_neg (by omega), if_neg h2, h3, if_neg (by simp), if_neg h4]
  exact flatRead_flatWrite_self s a v

/-- A store to the external window leaves the ROM windows as they are (R145). -/
theorem writeExternal_rom (k : Cart) (a x : Nat) (v : Byte) :
    readRom (writeExternal k a v) x = readRom k x := by
  unfold writeExternal; split <;> rfl

theorem writeExternal_upperRom (k : Cart) (a x : Nat) (v : Byte) :
    readUpperRom (writeExternal k a v) x = readUpperRom k x := by
  unfold writeExternal; split <;> rfl

/-- A bus write changes no byte outside its reach, the Peripherals' bytes apart (R102). -/
theorem busWrite_frame (s : State) (a : Word) (v : Byte) (x : Word) (hx : periphOwned x = false)
    (hr : storeReach a x = false) : busByte (busWrite s a v) x = busByte s x := by
  simp only [storeReach, inExternal, decide_eq_true_eq] at hr
  have hp := hx
  simp only [periphOwned, Bool.or_eq_false_iff, beq_eq_false_iff_ne] at hp
  unfold busWrite
  split_ifs at hr ⊢ with h1 h2 h3 h4
  · simp only [Bool.or_eq_false_iff, decide_eq_false_iff_not] at hr
    have h0 : ¬ x.toNat < 0x4000 := by omega
    simp only [busByte, if_neg h0, if_neg hr.1, if_neg hr.2, hp.1.2]
    rfl
  · simp only [decide_eq_false_iff_not] at hr
    simp only [busByte, if_neg hr, hp.1.2, writeExternal_rom, writeExternal_upperRom]
    rfl
  · rfl
  · simp only [decide_eq_false_iff_not] at hr
    exact busByte_of_flat hx (oamDma_done s v).cart ((oamDma_done s v).others x (by omega))
  · simp only [beq_eq_false_iff_ne] at hr
    exact busByte_of_flat hx (flatWrite_cart s a v) (flatRead_flatWrite_other s a x v hr)

/-- A MemWrite is one store cycle. -/
theorem memWrite_store (s : State) (a : Word) (v : Byte) : StoreCycle s (memWrite s a v) a v := by
  have w := accessCycle_waits s
  refine ⟨sameRegs_trans (accessCycle_regs s) (sameRegs_of_storage (busWrite_storage _ a v)),
    sameHidden_trans w.hidden (sameHidden_of_storage (busWrite_storage _ a v)), memWrite_ticks s a v,
    busWrite_cart (accessCycle s) a v, busWrite_ie (accessCycle s) a v, ?_,
    busWrite_stored (accessCycle s) a v, ?_, ?_⟩
  · have e := busWrite_iflag (accessCycle s) a v
    unfold memWrite
    split_ifs at e ⊢
    · exact e
    · rw [e]
      exact w.iflag
  · rintro rfl i hi ho
    have d := oamDma_done (accessCycle s) v
    have hm : memWrite s 0xFF46 v = oamDma (accessCycle s) v := by
      unfold memWrite busWrite
      rfl
    have hn := dmaTarget_toNat i hi
    have ht : periphOwned (0xFE00 + BitVec.ofNat 16 i) = false := by
      have h1 : ((0xFE00 : Word) + BitVec.ofNat 16 i == 0xFF0F) = false := by
        rw [beq_eq_false_iff_ne]
        intro e
        have e' := congrArg BitVec.toNat e
        rw [hn] at e'
        simp at e'
        omega
      simp only [periphOwned, h1, hn, Config.periphWritable, Config.isAudio]
      simp
      omega
    have hb : busByte (oamDma (accessCycle s) v) (0xFE00 + BitVec.ofNat 16 i) =
        flatRead (oamDma (accessCycle s) v) (0xFE00 + BitVec.ofNat 16 i) := by
      have h2 : (0xFE00 : Word) + BitVec.ofNat 16 i ≠ 0xFF4D := by
        intro e
        have e' := congrArg BitVec.toNat e
        rw [hn] at e'
        simp at e'
        omega
      have h3 : Config.isAudio (0xFE00 + i) = false := by simp [Config.isAudio]; omega
      unfold busByte
      rw [if_neg (by omega), if_neg (by omega), if_neg (by omega), if_neg h2, hn, h3]
      simp
    rw [hm, hb, d.copied i hi ho]
    exact w.bytes _ ho
  · exact fun x hx hr => (busWrite_frame (accessCycle s) a v x hx hr).trans (w.bytes x hx)

theorem pushByte_pushes (s : State) (v : Byte) : Pushes s (pushByte s v) v := memWrite_store _ _ _

theorem pushWord_pushes (s : State) (w : Word) : PushesWord s (pushWord s w) w :=
  ⟨_, pushByte_pushes s (hi8 w), pushByte_pushes _ (lo8 w)⟩

/-- From end to end a 16-bit push lowers SP by 2 and takes 8 ticks. -/
theorem pushesWord_sp {s t : State} {w : Word} (h : PushesWord s t w) : t.sp = s.sp - 1 - 1 := by
  obtain ⟨m, h1, h2⟩ := h
  rw [h2.regs.sp]
  exact congrArg (· - 1) h1.regs.sp

/-! ## The interrupt to serve -/

/-- The pending mask of R920. -/
def pendMask (s : State) : Byte := s.ie &&& s.iflag &&& 0x1F

theorem pendMask_getLsbD (s : State) (i : Nat) :
    (pendMask s).getLsbD i = (s.ie.getLsbD i && s.iflag.getLsbD i && decide (i < 5)) := by
  simp only [pendMask, BitVec.getLsbD_and]
  congr 1
  by_cases h : i < 8
  · interval_cases i <;> rfl
  · rw [BitVec.getLsbD_of_ge _ _ (by omega)]
    simp
    omega

/-- Some interrupt is served: it is enabled and requested, and none of a lower index is (R924). -/
theorem pendingSource_some (s : State) (k : Fin 5) (h : pendingSource s = some k) :
    (pendMask s).getLsbD k = true ∧ ∀ j < k.val, (pendMask s).getLsbD j = false := by
  simp only [pendMask_getLsbD]
  unfold pendingSource at h
  split_ifs at h <;> (cases h) <;> simp_all <;> intro j hj <;> interval_cases j <;> simp_all

/-- No interrupt is served exactly when the mask is zero (R920). -/
theorem pendingSource_none (s : State) : pendingSource s = none ↔ pendMask s = 0 := by
  constructor
  · intro h
    unfold pendingSource at h
    split_ifs at h
    ext i hi
    rw [← BitVec.getLsbD_eq_getElem, pendMask_getLsbD]
    interval_cases i <;> simp_all
  · intro h
    have hb : ∀ i < 5, (s.ie.getLsbD i && s.iflag.getLsbD i) = false := by
      intro i hi
      have e := pendMask_getLsbD s i
      rw [h] at e
      simpa [hi] using e.symm
    unfold pendingSource
    simp only [hb 0 (by omega), hb 1 (by omega), hb 2 (by omega), hb 3 (by omega), hb 4 (by omega),
      Bool.false_eq_true, if_false]

end Sys2Proof.Laws
end

