-- ==== Sys2Proof/Laws/Invariant.lean ====
section
/-! SUPPORT. Every memory operation keeps every byte list canonical and inside its home. -/

namespace Sys2Proof.Laws

open Sys2Proof.Machine

/-- The storage part of the invariant: the clauses of `Inv` that speak of memory. -/
structure StorageInv (s : State) : Prop where
  mem_wf : Memory.wf zeroByte s.mem
  mem_within : Memory.within memHome s.mem
  io_wf : Memory.wf Config.powerUp s.io
  io_within : Memory.within Config.periphWritable s.io
  cart : CartInv s.cart

theorem storageInv_of_inv {s : State} (h : Inv s) : StorageInv s :=
  ⟨h.mem_wf, h.mem_within, h.io_wf, h.io_within, h.cart⟩

/-- Storage that did not change keeps its invariant. -/
theorem storageInv_congr {s t : State} (h : StorageInv s) (hm : t.mem = s.mem) (hi : t.io = s.io)
    (hc : t.cart = s.cart) : StorageInv t :=
  ⟨hm ▸ h.mem_wf, hm ▸ h.mem_within, hi ▸ h.io_wf, hi ▸ h.io_within, hc ▸ h.cart⟩

/-- Where `flatWrite` lists a byte in `mem`, when the bus sends it there. -/
theorem memHome_of_flat (a : Word) (h : storesFlat a = true) (h1 : a ≠ 0xFFFF) (h2 : a ≠ 0xFF0F)
    (h3 : Config.periphWritable a.toNat = false) : memHome a.toNat = true := by
  simp only [storesFlat, inExternal, Bool.and_eq_true, decide_eq_true_eq, Bool.not_eq_true',
    decide_eq_false_iff_not, bne_iff_ne] at h
  obtain ⟨⟨⟨k1, k2⟩, k3⟩, k4⟩ := h
  have e1 : a.toNat ≠ 0xFFFF := fun e => h1 (BitVec.eq_of_toNat_eq e)
  have e2 : a.toNat ≠ 0xFF0F := fun e => h2 (BitVec.eq_of_toNat_eq e)
  have e4 : a.toNat ≠ 0xFF46 := fun e => k4 (BitVec.eq_of_toNat_eq e)
  have hlt := a.isLt
  have k2' : ¬(0xA000 ≤ a.toNat ∧ a.toNat < 0xC000) := by simpa using k2
  have k1' : 0x8000 ≤ a.toNat := by simpa using k1
  have e3 : a.toNat ≠ 0xFF0F := e2
  have range : (0x8000 ≤ a.toNat ∧ a.toNat < 0xA000) ∨ (0xC000 ≤ a.toNat ∧ a.toNat < 0xFFFF) := by
    omega
  simp [memHome, h3, k3, e3, e4, range]

theorem flatWrite_storageInv (s : State) (a : Word) (v : Byte) (h : StorageInv s)
    (ha : storesFlat a = true) : StorageInv (flatWrite s a v) := by
  unfold flatWrite
  split_ifs with h1 h2 h3
  · exact storageInv_congr h rfl rfl rfl
  · exact storageInv_congr h rfl rfl rfl
  · exact ⟨h.mem_wf, h.mem_within, write_wf _ _ _ _ h.io_wf, write_within _ _ _ _ _ h3 h.io_within,
      h.cart⟩
  · exact ⟨write_wf _ _ _ _ h.mem_wf,
      write_within _ _ _ _ _ (memHome_of_flat a ha h1 h2 (by simpa using h3)) h.mem_within,
      h.io_wf, h.io_within, h.cart⟩

theorem oamDmaByte_storageInv (p : Byte) (s : State) (i : Nat) (hi : i < 160) (h : StorageInv s) :
    StorageInv (oamDmaByte p s i) := by
  have ha := dmaTarget_toNat i hi
  refine flatWrite_storageInv _ _ _ (storageInv_congr h rfl rfl rfl) ?_
  have h3 : Config.isAudio (0xFE00 + i) = false := by simp [Config.isAudio]; omega
  have h4 : (0xFE00 : Word) + BitVec.ofNat 16 i ≠ 0xFF46 := fun e => by
    have e' := congrArg BitVec.toNat e
    rw [ha] at e'
    simp at e'
    omega
  simp only [storesFlat, inExternal, ha, h3, Bool.and_eq_true, decide_eq_true_eq, Bool.not_eq_true',
    decide_eq_false_iff_not, bne_iff_ne]
  exact ⟨⟨⟨by omega, by omega⟩, trivial⟩, h4⟩

theorem oamDma_storageInv (s : State) (v : Byte) (h : StorageInv s) : StorageInv (oamDma s v) := by
  unfold oamDma
  suffices H : ∀ l : List Nat, (∀ i ∈ l, i < 160) → ∀ s : State, StorageInv s →
      StorageInv (l.foldl (oamDmaByte v) s) from
    H _ (fun i hi => List.mem_range.mp hi) s h
  intro l
  induction l with
  | nil => exact fun _ _ h => h
  | cons i l ih =>
    exact fun hl s h => ih (fun j hj => hl j (List.mem_cons_of_mem _ hj)) _
      (oamDmaByte_storageInv v s i (hl i List.mem_cons_self) h)

/-! ## The cartridge -/

/-- A target inside external RAM is inside it (R152). -/
theorem ramTarget_lt (k : Cart) (b a off : Nat) (h : ramTarget k b a = .ram off) : off < k.ramLen := by
  unfold ramTarget at h
  split_ifs at h
  cases h
  exact Nat.mod_lt _ (by omega)

theorem extTarget_lt (k : Cart) (a off : Nat) (h : extTarget k a = .ram off) : off < k.ramLen := by
  unfold extTarget at h
  split at h
  · cases h
  · cases hv : k.variant <;> simp only [hv] at h
    · cases h
    · cases h
    · exact ramTarget_lt k _ a off h
    · split at h
      · exact ramTarget_lt k _ a off h
      · split at h <;> cases h

/-- A store to the external window keeps the cartridge's invariant. -/
theorem writeExternal_inv (k : Cart) (a : Nat) (v : Byte) (h : CartInv k) :
    CartInv (writeExternal k a v) := by
  unfold writeExternal
  split
  · exact h
  · rename_i off ht
    exact ⟨h.rom_wf, h.rom_within, h.rom_bound, write_wf _ _ _ _ h.eram_wf,
      write_within _ _ _ _ _ (by simpa using extTarget_lt k a off ht) h.eram_within, h.ram_sizes,
      h.no_banking, h.bank_nonzero⟩
  · exact ⟨h.rom_wf, h.rom_within, h.rom_bound, h.eram_wf, h.eram_within, h.ram_sizes, h.no_banking,
      h.bank_nonzero⟩

/-- A control write keeps the cartridge's invariant. -/
theorem writeToRom_inv (k : Cart) (a : Nat) (v : Byte) (now : Rtc) (h : CartInv k) :
    CartInv (writeToRom k a v now) := by
  unfold writeToRom
  split
  · exact h
  · exact h
  · rename_i hv
    have nb : ∀ e : Bool, k.variant = .absent ∨ k.variant = .noBanking → e = false ∧ k.ramLen = 0 := by
      intro e he
      rw [hv] at he
      simp at he
    unfold writeMbc1
    split_ifs <;>
      exact ⟨h.rom_wf, h.rom_within, h.rom_bound, h.eram_wf, h.eram_within, h.ram_sizes,
        nb _, h.bank_nonzero⟩
  · rename_i hv
    have nb : ∀ e : Bool, k.variant = .absent ∨ k.variant = .noBanking → e = false ∧ k.ramLen = 0 := by
      intro e he
      rw [hv] at he
      simp at he
    unfold writeMbc3
    split_ifs
    · exact ⟨h.rom_wf, h.rom_within, h.rom_bound, h.eram_wf, h.eram_within, h.ram_sizes,
        nb _, h.bank_nonzero⟩
    · exact ⟨h.rom_wf, h.rom_within, h.rom_bound, h.eram_wf, h.eram_within, h.ram_sizes,
        nb _, by show (1 : BitVec 7) ≠ 0; decide⟩
    · rename_i h0
      exact ⟨h.rom_wf, h.rom_within, h.rom_bound, h.eram_wf, h.eram_within, h.ram_sizes,
        nb _, h0⟩
    · exact ⟨h.rom_wf, h.rom_within, h.rom_bound, h.eram_wf, h.eram_within, h.ram_sizes,
        nb _, h.bank_nonzero⟩
    · exact ⟨h.rom_wf, h.rom_within, h.rom_bound, h.eram_wf, h.eram_within, h.ram_sizes,
        nb _, h.bank_nonzero⟩

/-! ## The bus and time -/

/-- A bus write keeps the storage invariant. -/
theorem busWrite_storageInv (s : State) (a : Word) (v : Byte) (h : StorageInv s) :
    StorageInv (busWrite s a v) := by
  unfold busWrite
  split_ifs with h1 h2 h3 h4
  · exact ⟨h.mem_wf, h.mem_within, h.io_wf, h.io_within, writeToRom_inv _ _ _ _ h.cart⟩
  · exact ⟨h.mem_wf, h.mem_within, h.io_wf, h.io_within, writeExternal_inv _ _ _ h.cart⟩
  · exact h
  · exact oamDma_storageInv s v h
  · refine flatWrite_storageInv s a v h ?_
    simp only [storesFlat, inExternal, Bool.and_eq_true, decide_eq_true_eq, Bool.not_eq_true',
      decide_eq_false_iff_not, bne_iff_ne]
    exact ⟨⟨⟨by omega, h2⟩, by simpa using h3⟩, h4⟩

/-- A tick keeps the storage invariant. -/
theorem clockIf_storageInv (p : Bool) (s : State) (h : StorageInv s) : StorageInv (clockIf p s) := by
  unfold clockIf
  cases p
  · exact storageInv_congr h rfl rfl rfl
  · exact ⟨h.mem_wf, h.mem_within, (periphStores_inv _ _ ⟨h.io_wf, h.io_within⟩).1,
      (periphStores_inv _ _ ⟨h.io_wf, h.io_within⟩).2, h.cart⟩

theorem accessCycle_storageInv (s : State) (h : StorageInv s) : StorageInv (accessCycle s) :=
  storageInv_congr (clockIf_storageInv true s h) rfl rfl rfl

theorem internal_storageInv (s : State) (h : StorageInv s) : StorageInv (internal s) :=
  storageInv_congr (clockIf_storageInv _ s h) rfl rfl rfl

theorem memRead_storageInv (s : State) (a : Word) (h : StorageInv s) : StorageInv (memRead s a).2 :=
  storageInv_congr (accessCycle_storageInv s h) rfl rfl rfl

theorem memWrite_storageInv (s : State) (a : Word) (v : Byte) (h : StorageInv s) :
    StorageInv (memWrite s a v) := busWrite_storageInv _ a v (accessCycle_storageInv s h)

theorem pushByte_storageInv (s : State) (v : Byte) (h : StorageInv s) : StorageInv (pushByte s v) :=
  memWrite_storageInv _ _ _ (storageInv_congr h rfl rfl rfl)

theorem pushWord_storageInv (s : State) (w : Word) (h : StorageInv s) : StorageInv (pushWord s w) :=
  pushByte_storageInv _ _ (pushByte_storageInv s _ h)

theorem popByte_storageInv (s : State) (h : StorageInv s) : StorageInv (popByte s).2 := by
  rw [popByte_snd]
  exact storageInv_congr (memRead_storageInv s s.sp h) rfl rfl rfl

theorem popWord_storageInv (s : State) (h : StorageInv s) : StorageInv (popWord s).2 := by
  rw [popWord_snd]
  exact popByte_storageInv _ (popByte_storageInv s h)

/-! ## The host's operations -/

/-- A fold of writes keeps the canonical form. -/
theorem foldl_write_wf {α : Type} (dflt : Nat → Byte) (g : α → Nat) (v : α → Byte) (l : List α)
    (m : List Host.Cell) (h : Memory.wf dflt m) :
    Memory.wf dflt (l.foldl (fun m x => Memory.write dflt m (g x) (v x)) m) := by
  induction l generalizing m with
  | nil => exact h
  | cons x l ih => exact ih _ (write_wf dflt m (g x) (v x) h)

/-- External RAM is canonical after a load, whatever the save bytes. -/
theorem loadRam_wf (n : Nat) (save : List Byte) : Memory.wf zeroByte (loadRam n save) :=
  foldl_write_wf zeroByte (fun x : Byte × Nat => x.2) (fun x => x.1) _ [] (empty_wf zeroByte)

/-- The zeroed flat array is canonical. -/
theorem zeroFlat_wf (s : State) :
    Memory.wf zeroByte (zeroFlat s).mem ∧ Memory.wf Config.powerUp (zeroFlat s).io := by
  refine ⟨empty_wf zeroByte, ?_⟩
  show Memory.wf Config.powerUp
    (Config.periphAddrs.foldl (fun m a => Memory.write Config.powerUp m a 0x00) [])
  generalize Config.periphAddrs = l
  exact foldl_write_wf Config.powerUp (fun a => a) (fun _ => 0x00) l [] (empty_wf Config.powerUp)

/-- The canonical form of all four byte lists. -/
structure Canonical (s : State) : Prop where
  mem : Memory.wf zeroByte s.mem
  io : Memory.wf Config.powerUp s.io
  rom : Memory.wf zeroByte s.cart.rom
  eram : Memory.wf zeroByte s.cart.eram

theorem writeExternal_wf (k : Cart) (a : Nat) (v : Byte) (hr : Memory.wf zeroByte k.rom)
    (he : Memory.wf zeroByte k.eram) : Memory.wf zeroByte (writeExternal k a v).rom ∧
      Memory.wf zeroByte (writeExternal k a v).eram := by
  unfold writeExternal
  split
  · exact ⟨hr, he⟩
  · exact ⟨hr, write_wf _ _ _ _ he⟩
  · exact ⟨hr, he⟩

/-- Placing a byte keeps the canonical form. -/
theorem placeByte_canonical (s : State) (a : Word) (v : Byte) (h : Canonical s) :
    Canonical (placeByte s a v) := by
  unfold placeByte
  split_ifs
  · exact ⟨h.mem, h.io, write_wf _ _ _ _ h.rom, h.eram⟩
  · exact ⟨h.mem, h.io, write_wf _ _ _ _ h.rom, h.eram⟩
  · exact ⟨h.mem, h.io, (writeExternal_wf _ _ _ h.rom h.eram).1,
      (writeExternal_wf _ _ _ h.rom h.eram).2⟩
  · exact h
  · unfold flatWrite
    split_ifs
    · exact ⟨h.mem, h.io, h.rom, h.eram⟩
    · exact ⟨h.mem, h.io, h.rom, h.eram⟩
    · exact ⟨h.mem, write_wf _ _ _ _ h.io, h.rom, h.eram⟩
    · exact ⟨write_wf _ _ _ _ h.mem, h.io, h.rom, h.eram⟩

theorem placeBytes_canonical (bs : List Byte) (s : State) (a : Word) (h : Canonical s) :
    Canonical (placeBytes s a bs) := by
  induction bs generalizing s a with
  | nil => exact h
  | cons v vs ih => exact ih _ _ (placeByte_canonical s a v h)

end Sys2Proof.Laws
end

