-- ==== Sys2Proof/Laws/PerInstr.lean ====
section
/-! SUPPORT. Per instruction: the opcode byte alone fixes how long the encoding is (R200). -/

namespace Sys2Proof.Laws

/-- Every encoding starts with an opcode byte, and the length its format gives is the length of the
encoding (R200). -/
def Encoding.Statement (i : Instr) : Prop :=
  ∃ op rest, encode i = op :: rest ∧ formatLength (formatOf op) = instrLength i

theorem Encoding.nop : Encoding.Statement .nop := ⟨_, _, rfl, rfl⟩
theorem Encoding.ld_bc_d16 (nn : Word) : Encoding.Statement (.ld_bc_d16 nn) := ⟨_, _, rfl, rfl⟩
theorem Encoding.ld_atBC_a : Encoding.Statement .ld_atBC_a := ⟨_, _, rfl, rfl⟩
theorem Encoding.inc_bc : Encoding.Statement .inc_bc := ⟨_, _, rfl, rfl⟩
theorem Encoding.inc_b : Encoding.Statement .inc_b := ⟨_, _, rfl, rfl⟩
theorem Encoding.dec_b : Encoding.Statement .dec_b := ⟨_, _, rfl, rfl⟩
theorem Encoding.ld_b_d8 (n : Byte) : Encoding.Statement (.ld_b_d8 n) := ⟨_, _, rfl, rfl⟩
theorem Encoding.rlca : Encoding.Statement .rlca := ⟨_, _, rfl, rfl⟩
theorem Encoding.ld_at16_sp (nn : Word) : Encoding.Statement (.ld_at16_sp nn) := ⟨_, _, rfl, rfl⟩
theorem Encoding.add_hl_bc : Encoding.Statement .add_hl_bc := ⟨_, _, rfl, rfl⟩
theorem Encoding.ld_a_atBC : Encoding.Statement .ld_a_atBC := ⟨_, _, rfl, rfl⟩
theorem Encoding.dec_bc : Encoding.Statement .dec_bc := ⟨_, _, rfl, rfl⟩
theorem Encoding.inc_c : Encoding.Statement .inc_c := ⟨_, _, rfl, rfl⟩
theorem Encoding.dec_c : Encoding.Statement .dec_c := ⟨_, _, rfl, rfl⟩
theorem Encoding.ld_c_d8 (n : Byte) : Encoding.Statement (.ld_c_d8 n) := ⟨_, _, rfl, rfl⟩
theorem Encoding.rrca : Encoding.Statement .rrca := ⟨_, _, rfl, rfl⟩
theorem Encoding.stop : Encoding.Statement .stop := ⟨_, _, rfl, rfl⟩
theorem Encoding.ld_de_d16 (nn : Word) : Encoding.Statement (.ld_de_d16 nn) := ⟨_, _, rfl, rfl⟩
theorem Encoding.ld_atDE_a : Encoding.Statement .ld_atDE_a := ⟨_, _, rfl, rfl⟩
theorem Encoding.inc_de : Encoding.Statement .inc_de := ⟨_, _, rfl, rfl⟩
theorem Encoding.inc_d : Encoding.Statement .inc_d := ⟨_, _, rfl, rfl⟩
theorem Encoding.dec_d : Encoding.Statement .dec_d := ⟨_, _, rfl, rfl⟩
theorem Encoding.ld_d_d8 (n : Byte) : Encoding.Statement (.ld_d_d8 n) := ⟨_, _, rfl, rfl⟩
theorem Encoding.rla : Encoding.Statement .rla := ⟨_, _, rfl, rfl⟩
theorem Encoding.jr_r8 (e : Byte) : Encoding.Statement (.jr_r8 e) := ⟨_, _, rfl, rfl⟩
theorem Encoding.add_hl_de : Encoding.Statement .add_hl_de := ⟨_, _, rfl, rfl⟩
theorem Encoding.ld_a_atDE : Encoding.Statement .ld_a_atDE := ⟨_, _, rfl, rfl⟩
theorem Encoding.dec_de : Encoding.Statement .dec_de := ⟨_, _, rfl, rfl⟩
theorem Encoding.inc_e : Encoding.Statement .inc_e := ⟨_, _, rfl, rfl⟩
theorem Encoding.dec_e : Encoding.Statement .dec_e := ⟨_, _, rfl, rfl⟩
theorem Encoding.ld_e_d8 (n : Byte) : Encoding.Statement (.ld_e_d8 n) := ⟨_, _, rfl, rfl⟩
theorem Encoding.rra : Encoding.Statement .rra := ⟨_, _, rfl, rfl⟩
theorem Encoding.jr_nz_r8 (e : Byte) : Encoding.Statement (.jr_nz_r8 e) := ⟨_, _, rfl, rfl⟩
theorem Encoding.ld_hl_d16 (nn : Word) : Encoding.Statement (.ld_hl_d16 nn) := ⟨_, _, rfl, rfl⟩
theorem Encoding.ld_atHLI_a : Encoding.Statement .ld_atHLI_a := ⟨_, _, rfl, rfl⟩
theorem Encoding.inc_hl : Encoding.Statement .inc_hl := ⟨_, _, rfl, rfl⟩
theorem Encoding.inc_h : Encoding.Statement .inc_h := ⟨_, _, rfl, rfl⟩
theorem Encoding.dec_h : Encoding.Statement .dec_h := ⟨_, _, rfl, rfl⟩
theorem Encoding.ld_h_d8 (n : Byte) : Encoding.Statement (.ld_h_d8 n) := ⟨_, _, rfl, rfl⟩
theorem Encoding.daa : Encoding.Statement .daa := ⟨_, _, rfl, rfl⟩
theorem Encoding.jr_z_r8 (e : Byte) : Encoding.Statement (.jr_z_r8 e) := ⟨_, _, rfl, rfl⟩
theorem Encoding.add_hl_hl : Encoding.Statement .add_hl_hl := ⟨_, _, rfl, rfl⟩
theorem Encoding.ld_a_atHLI : Encoding.Statement .ld_a_atHLI := ⟨_, _, rfl, rfl⟩
theorem Encoding.dec_hl : Encoding.Statement .dec_hl := ⟨_, _, rfl, rfl⟩
theorem Encoding.inc_l : Encoding.Statement .inc_l := ⟨_, _, rfl, rfl⟩
theorem Encoding.dec_l : Encoding.Statement .dec_l := ⟨_, _, rfl, rfl⟩
theorem Encoding.ld_l_d8 (n : Byte) : Encoding.Statement (.ld_l_d8 n) := ⟨_, _, rfl, rfl⟩
theorem Encoding.cpl : Encoding.Statement .cpl := ⟨_, _, rfl, rfl⟩
theorem Encoding.jr_nc_r8 (e : Byte) : Encoding.Statement (.jr_nc_r8 e) := ⟨_, _, rfl, rfl⟩
theorem Encoding.ld_sp_d16 (nn : Word) : Encoding.Statement (.ld_sp_d16 nn) := ⟨_, _, rfl, rfl⟩
theorem Encoding.ld_atHLD_a : Encoding.Statement .ld_atHLD_a := ⟨_, _, rfl, rfl⟩
theorem Encoding.inc_sp : Encoding.Statement .inc_sp := ⟨_, _, rfl, rfl⟩
theorem Encoding.inc_atHL : Encoding.Statement .inc_atHL := ⟨_, _, rfl, rfl⟩
theorem Encoding.dec_atHL : Encoding.Statement .dec_atHL := ⟨_, _, rfl, rfl⟩
theorem Encoding.ld_atHL_d8 (n : Byte) : Encoding.Statement (.ld_atHL_d8 n) := ⟨_, _, rfl, rfl⟩
theorem Encoding.scf : Encoding.Statement .scf := ⟨_, _, rfl, rfl⟩
theorem Encoding.jr_c_r8 (e : Byte) : Encoding.Statement (.jr_c_r8 e) := ⟨_, _, rfl, rfl⟩
theorem Encoding.add_hl_sp : Encoding.Statement .add_hl_sp := ⟨_, _, rfl, rfl⟩
theorem Encoding.ld_a_atHLD : Encoding.Statement .ld_a_atHLD := ⟨_, _, rfl, rfl⟩
theorem Encoding.dec_sp : Encoding.Statement .dec_sp := ⟨_, _, rfl, rfl⟩
theorem Encoding.inc_a : Encoding.Statement .inc_a := ⟨_, _, rfl, rfl⟩
theorem Encoding.dec_a : Encoding.Statement .dec_a := ⟨_, _, rfl, rfl⟩
theorem Encoding.ld_a_d8 (n : Byte) : Encoding.Statement (.ld_a_d8 n) := ⟨_, _, rfl, rfl⟩
theorem Encoding.ccf : Encoding.Statement .ccf := ⟨_, _, rfl, rfl⟩
theorem Encoding.ld_b_b : Encoding.Statement .ld_b_b := ⟨_, _, rfl, rfl⟩
theorem Encoding.ld_b_c : Encoding.Statement .ld_b_c := ⟨_, _, rfl, rfl⟩
theorem Encoding.ld_b_d : Encoding.Statement .ld_b_d := ⟨_, _, rfl, rfl⟩
theorem Encoding.ld_b_e : Encoding.Statement .ld_b_e := ⟨_, _, rfl, rfl⟩
theorem Encoding.ld_b_h : Encoding.Statement .ld_b_h := ⟨_, _, rfl, rfl⟩
theorem Encoding.ld_b_l : Encoding.Statement .ld_b_l := ⟨_, _, rfl, rfl⟩
theorem Encoding.ld_b_atHL : Encoding.Statement .ld_b_atHL := ⟨_, _, rfl, rfl⟩
theorem Encoding.ld_b_a : Encoding.Statement .ld_b_a := ⟨_, _, rfl, rfl⟩
theorem Encoding.ld_c_b : Encoding.Statement .ld_c_b := ⟨_, _, rfl, rfl⟩
theorem Encoding.ld_c_c : Encoding.Statement .ld_c_c := ⟨_, _, rfl, rfl⟩
theorem Encoding.ld_c_d : Encoding.Statement .ld_c_d := ⟨_, _, rfl, rfl⟩
theorem Encoding.ld_c_e : Encoding.Statement .ld_c_e := ⟨_, _, rfl, rfl⟩
theorem Encoding.ld_c_h : Encoding.Statement .ld_c_h := ⟨_, _, rfl, rfl⟩
theorem Encoding.ld_c_l : Encoding.Statement .ld_c_l := ⟨_, _, rfl, rfl⟩
theorem Encoding.ld_c_atHL : Encoding.Statement .ld_c_atHL := ⟨_, _, rfl, rfl⟩
theorem Encoding.ld_c_a : Encoding.Statement .ld_c_a := ⟨_, _, rfl, rfl⟩
theorem Encoding.ld_d_b : Encoding.Statement .ld_d_b := ⟨_, _, rfl, rfl⟩
theorem Encoding.ld_d_c : Encoding.Statement .ld_d_c := ⟨_, _, rfl, rfl⟩
theorem Encoding.ld_d_d : Encoding.Statement .ld_d_d := ⟨_, _, rfl, rfl⟩
theorem Encoding.ld_d_e : Encoding.Statement .ld_d_e := ⟨_, _, rfl, rfl⟩
theorem Encoding.ld_d_h : Encoding.Statement .ld_d_h := ⟨_, _, rfl, rfl⟩
theorem Encoding.ld_d_l : Encoding.Statement .ld_d_l := ⟨_, _, rfl, rfl⟩
theorem Encoding.ld_d_atHL : Encoding.Statement .ld_d_atHL := ⟨_, _, rfl, rfl⟩
theorem Encoding.ld_d_a : Encoding.Statement .ld_d_a := ⟨_, _, rfl, rfl⟩
theorem Encoding.ld_e_b : Encoding.Statement .ld_e_b := ⟨_, _, rfl, rfl⟩
theorem Encoding.ld_e_c : Encoding.Statement .ld_e_c := ⟨_, _, rfl, rfl⟩
theorem Encoding.ld_e_d : Encoding.Statement .ld_e_d := ⟨_, _, rfl, rfl⟩
theorem Encoding.ld_e_e : Encoding.Statement .ld_e_e := ⟨_, _, rfl, rfl⟩
theorem Encoding.ld_e_h : Encoding.Statement .ld_e_h := ⟨_, _, rfl, rfl⟩
theorem Encoding.ld_e_l : Encoding.Statement .ld_e_l := ⟨_, _, rfl, rfl⟩
theorem Encoding.ld_e_atHL : Encoding.Statement .ld_e_atHL := ⟨_, _, rfl, rfl⟩
theorem Encoding.ld_e_a : Encoding.Statement .ld_e_a := ⟨_, _, rfl, rfl⟩
theorem Encoding.ld_h_b : Encoding.Statement .ld_h_b := ⟨_, _, rfl, rfl⟩
theorem Encoding.ld_h_c : Encoding.Statement .ld_h_c := ⟨_, _, rfl, rfl⟩
theorem Encoding.ld_h_d : Encoding.Statement .ld_h_d := ⟨_, _, rfl, rfl⟩
theorem Encoding.ld_h_e : Encoding.Statement .ld_h_e := ⟨_, _, rfl, rfl⟩
theorem Encoding.ld_h_h : Encoding.Statement .ld_h_h := ⟨_, _, rfl, rfl⟩
theorem Encoding.ld_h_l : Encoding.Statement .ld_h_l := ⟨_, _, rfl, rfl⟩
theorem Encoding.ld_h_atHL : Encoding.Statement .ld_h_atHL := ⟨_, _, rfl, rfl⟩
theorem Encoding.ld_h_a : Encoding.Statement .ld_h_a := ⟨_, _, rfl, rfl⟩
theorem Encoding.ld_l_b : Encoding.Statement .ld_l_b := ⟨_, _, rfl, rfl⟩
theorem Encoding.ld_l_c : Encoding.Statement .ld_l_c := ⟨_, _, rfl, rfl⟩
theorem Encoding.ld_l_d : Encoding.Statement .ld_l_d := ⟨_, _, rfl, rfl⟩
theorem Encoding.ld_l_e : Encoding.Statement .ld_l_e := ⟨_, _, rfl, rfl⟩
theorem Encoding.ld_l_h : Encoding.Statement .ld_l_h := ⟨_, _, rfl, rfl⟩
theorem Encoding.ld_l_l : Encoding.Statement .ld_l_l := ⟨_, _, rfl, rfl⟩
theorem Encoding.ld_l_atHL : Encoding.Statement .ld_l_atHL := ⟨_, _, rfl, rfl⟩
theorem Encoding.ld_l_a : Encoding.Statement .ld_l_a := ⟨_, _, rfl, rfl⟩
theorem Encoding.ld_atHL_b : Encoding.Statement .ld_atHL_b := ⟨_, _, rfl, rfl⟩
theorem Encoding.ld_atHL_c : Encoding.Statement .ld_atHL_c := ⟨_, _, rfl, rfl⟩
theorem Encoding.ld_atHL_d : Encoding.Statement .ld_atHL_d := ⟨_, _, rfl, rfl⟩
theorem Encoding.ld_atHL_e : Encoding.Statement .ld_atHL_e := ⟨_, _, rfl, rfl⟩
theorem Encoding.ld_atHL_h : Encoding.Statement .ld_atHL_h := ⟨_, _, rfl, rfl⟩
theorem Encoding.ld_atHL_l : Encoding.Statement .ld_atHL_l := ⟨_, _, rfl, rfl⟩
theorem Encoding.halt : Encoding.Statement .halt := ⟨_, _, rfl, rfl⟩
theorem Encoding.ld_atHL_a : Encoding.Statement .ld_atHL_a := ⟨_, _, rfl, rfl⟩
theorem Encoding.ld_a_b : Encoding.Statement .ld_a_b := ⟨_, _, rfl, rfl⟩
theorem Encoding.ld_a_c : Encoding.Statement .ld_a_c := ⟨_, _, rfl, rfl⟩
theorem Encoding.ld_a_d : Encoding.Statement .ld_a_d := ⟨_, _, rfl, rfl⟩
theorem Encoding.ld_a_e : Encoding.Statement .ld_a_e := ⟨_, _, rfl, rfl⟩
theorem Encoding.ld_a_h : Encoding.Statement .ld_a_h := ⟨_, _, rfl, rfl⟩
theorem Encoding.ld_a_l : Encoding.Statement .ld_a_l := ⟨_, _, rfl, rfl⟩
theorem Encoding.ld_a_atHL : Encoding.Statement .ld_a_atHL := ⟨_, _, rfl, rfl⟩
theorem Encoding.ld_a_a : Encoding.Statement .ld_a_a := ⟨_, _, rfl, rfl⟩
theorem Encoding.add_a_b : Encoding.Statement .add_a_b := ⟨_, _, rfl, rfl⟩
theorem Encoding.add_a_c : Encoding.Statement .add_a_c := ⟨_, _, rfl, rfl⟩
theorem Encoding.add_a_d : Encoding.Statement .add_a_d := ⟨_, _, rfl, rfl⟩
theorem Encoding.add_a_e : Encoding.Statement .add_a_e := ⟨_, _, rfl, rfl⟩
theorem Encoding.add_a_h : Encoding.Statement .add_a_h := ⟨_, _, rfl, rfl⟩
theorem Encoding.add_a_l : Encoding.Statement .add_a_l := ⟨_, _, rfl, rfl⟩
theorem Encoding.add_a_atHL : Encoding.Statement .add_a_atHL := ⟨_, _, rfl, rfl⟩
theorem Encoding.add_a_a : Encoding.Statement .add_a_a := ⟨_, _, rfl, rfl⟩
theorem Encoding.adc_a_b : Encoding.Statement .adc_a_b := ⟨_, _, rfl, rfl⟩
theorem Encoding.adc_a_c : Encoding.Statement .adc_a_c := ⟨_, _, rfl, rfl⟩
theorem Encoding.adc_a_d : Encoding.Statement .adc_a_d := ⟨_, _, rfl, rfl⟩
theorem Encoding.adc_a_e : Encoding.Statement .adc_a_e := ⟨_, _, rfl, rfl⟩
theorem Encoding.adc_a_h : Encoding.Statement .adc_a_h := ⟨_, _, rfl, rfl⟩
theorem Encoding.adc_a_l : Encoding.Statement .adc_a_l := ⟨_, _, rfl, rfl⟩
theorem Encoding.adc_a_atHL : Encoding.Statement .adc_a_atHL := ⟨_, _, rfl, rfl⟩
theorem Encoding.adc_a_a : Encoding.Statement .adc_a_a := ⟨_, _, rfl, rfl⟩
theorem Encoding.sub_b : Encoding.Statement .sub_b := ⟨_, _, rfl, rfl⟩
theorem Encoding.sub_c : Encoding.Statement .sub_c := ⟨_, _, rfl, rfl⟩
theorem Encoding.sub_d : Encoding.Statement .sub_d := ⟨_, _, rfl, rfl⟩
theorem Encoding.sub_e : Encoding.Statement .sub_e := ⟨_, _, rfl, rfl⟩
theorem Encoding.sub_h : Encoding.Statement .sub_h := ⟨_, _, rfl, rfl⟩
theorem Encoding.sub_l : Encoding.Statement .sub_l := ⟨_, _, rfl, rfl⟩
theorem Encoding.sub_atHL : Encoding.Statement .sub_atHL := ⟨_, _, rfl, rfl⟩
theorem Encoding.sub_a : Encoding.Statement .sub_a := ⟨_, _, rfl, rfl⟩
theorem Encoding.sbc_a_b : Encoding.Statement .sbc_a_b := ⟨_, _, rfl, rfl⟩
theorem Encoding.sbc_a_c : Encoding.Statement .sbc_a_c := ⟨_, _, rfl, rfl⟩
theorem Encoding.sbc_a_d : Encoding.Statement .sbc_a_d := ⟨_, _, rfl, rfl⟩
theorem Encoding.sbc_a_e : Encoding.Statement .sbc_a_e := ⟨_, _, rfl, rfl⟩
theorem Encoding.sbc_a_h : Encoding.Statement .sbc_a_h := ⟨_, _, rfl, rfl⟩
theorem Encoding.sbc_a_l : Encoding.Statement .sbc_a_l := ⟨_, _, rfl, rfl⟩
theorem Encoding.sbc_a_atHL : Encoding.Statement .sbc_a_atHL := ⟨_, _, rfl, rfl⟩
theorem Encoding.sbc_a_a : Encoding.Statement .sbc_a_a := ⟨_, _, rfl, rfl⟩
theorem Encoding.and_b : Encoding.Statement .and_b := ⟨_, _, rfl, rfl⟩
theorem Encoding.and_c : Encoding.Statement .and_c := ⟨_, _, rfl, rfl⟩
theorem Encoding.and_d : Encoding.Statement .and_d := ⟨_, _, rfl, rfl⟩
theorem Encoding.and_e : Encoding.Statement .and_e := ⟨_, _, rfl, rfl⟩
theorem Encoding.and_h : Encoding.Statement .and_h := ⟨_, _, rfl, rfl⟩
theorem Encoding.and_l : Encoding.Statement .and_l := ⟨_, _, rfl, rfl⟩
theorem Encoding.and_atHL : Encoding.Statement .and_atHL := ⟨_, _, rfl, rfl⟩
theorem Encoding.and_a : Encoding.Statement .and_a := ⟨_, _, rfl, rfl⟩
theorem Encoding.xor_b : Encoding.Statement .xor_b := ⟨_, _, rfl, rfl⟩
theorem Encoding.xor_c : Encoding.Statement .xor_c := ⟨_, _, rfl, rfl⟩
theorem Encoding.xor_d : Encoding.Statement .xor_d := ⟨_, _, rfl, rfl⟩
theorem Encoding.xor_e : Encoding.Statement .xor_e := ⟨_, _, rfl, rfl⟩
theorem Encoding.xor_h : Encoding.Statement .xor_h := ⟨_, _, rfl, rfl⟩
theorem Encoding.xor_l : Encoding.Statement .xor_l := ⟨_, _, rfl, rfl⟩
theorem Encoding.xor_atHL : Encoding.Statement .xor_atHL := ⟨_, _, rfl, rfl⟩
theorem Encoding.xor_a : Encoding.Statement .xor_a := ⟨_, _, rfl, rfl⟩
theorem Encoding.or_b : Encoding.Statement .or_b := ⟨_, _, rfl, rfl⟩
theorem Encoding.or_c : Encoding.Statement .or_c := ⟨_, _, rfl, rfl⟩
theorem Encoding.or_d : Encoding.Statement .or_d := ⟨_, _, rfl, rfl⟩
theorem Encoding.or_e : Encoding.Statement .or_e := ⟨_, _, rfl, rfl⟩
theorem Encoding.or_h : Encoding.Statement .or_h := ⟨_, _, rfl, rfl⟩
theorem Encoding.or_l : Encoding.Statement .or_l := ⟨_, _, rfl, rfl⟩
theorem Encoding.or_atHL : Encoding.Statement .or_atHL := ⟨_, _, rfl, rfl⟩
theorem Encoding.or_a : Encoding.Statement .or_a := ⟨_, _, rfl, rfl⟩
theorem Encoding.cp_b : Encoding.Statement .cp_b := ⟨_, _, rfl, rfl⟩
theorem Encoding.cp_c : Encoding.Statement .cp_c := ⟨_, _, rfl, rfl⟩
theorem Encoding.cp_d : Encoding.Statement .cp_d := ⟨_, _, rfl, rfl⟩
theorem Encoding.cp_e : Encoding.Statement .cp_e := ⟨_, _, rfl, rfl⟩
theorem Encoding.cp_h : Encoding.Statement .cp_h := ⟨_, _, rfl, rfl⟩
theorem Encoding.cp_l : Encoding.Statement .cp_l := ⟨_, _, rfl, rfl⟩
theorem Encoding.cp_atHL : Encoding.Statement .cp_atHL := ⟨_, _, rfl, rfl⟩
theorem Encoding.cp_a : Encoding.Statement .cp_a := ⟨_, _, rfl, rfl⟩
theorem Encoding.ret_nz : Encoding.Statement .ret_nz := ⟨_, _, rfl, rfl⟩
theorem Encoding.pop_bc : Encoding.Statement .pop_bc := ⟨_, _, rfl, rfl⟩
theorem Encoding.jp_nz_a16 (nn : Word) : Encoding.Statement (.jp_nz_a16 nn) := ⟨_, _, rfl, rfl⟩
theorem Encoding.jp_a16 (nn : Word) : Encoding.Statement (.jp_a16 nn) := ⟨_, _, rfl, rfl⟩
theorem Encoding.call_nz_a16 (nn : Word) : Encoding.Statement (.call_nz_a16 nn) := ⟨_, _, rfl, rfl⟩
theorem Encoding.push_bc : Encoding.Statement .push_bc := ⟨_, _, rfl, rfl⟩
theorem Encoding.add_a_d8 (n : Byte) : Encoding.Statement (.add_a_d8 n) := ⟨_, _, rfl, rfl⟩
theorem Encoding.rst_00 : Encoding.Statement .rst_00 := ⟨_, _, rfl, rfl⟩
theorem Encoding.ret_z : Encoding.Statement .ret_z := ⟨_, _, rfl, rfl⟩
theorem Encoding.ret : Encoding.Statement .ret := ⟨_, _, rfl, rfl⟩
theorem Encoding.jp_z_a16 (nn : Word) : Encoding.Statement (.jp_z_a16 nn) := ⟨_, _, rfl, rfl⟩
theorem Encoding.prefix_CB (s : Byte) : Encoding.Statement (.prefix_CB s) := ⟨_, _, rfl, rfl⟩
theorem Encoding.call_z_a16 (nn : Word) : Encoding.Statement (.call_z_a16 nn) := ⟨_, _, rfl, rfl⟩
theorem Encoding.call_a16 (nn : Word) : Encoding.Statement (.call_a16 nn) := ⟨_, _, rfl, rfl⟩
theorem Encoding.adc_a_d8 (n : Byte) : Encoding.Statement (.adc_a_d8 n) := ⟨_, _, rfl, rfl⟩
theorem Encoding.rst_08 : Encoding.Statement .rst_08 := ⟨_, _, rfl, rfl⟩
theorem Encoding.ret_nc : Encoding.Statement .ret_nc := ⟨_, _, rfl, rfl⟩
theorem Encoding.pop_de : Encoding.Statement .pop_de := ⟨_, _, rfl, rfl⟩
theorem Encoding.jp_nc_a16 (nn : Word) : Encoding.Statement (.jp_nc_a16 nn) := ⟨_, _, rfl, rfl⟩
theorem Encoding.illegal_D3 : Encoding.Statement .illegal_D3 := ⟨_, _, rfl, rfl⟩
theorem Encoding.call_nc_a16 (nn : Word) : Encoding.Statement (.call_nc_a16 nn) := ⟨_, _, rfl, rfl⟩
theorem Encoding.push_de : Encoding.Statement .push_de := ⟨_, _, rfl, rfl⟩
theorem Encoding.sub_d8 (n : Byte) : Encoding.Statement (.sub_d8 n) := ⟨_, _, rfl, rfl⟩
theorem Encoding.rst_10 : Encoding.Statement .rst_10 := ⟨_, _, rfl, rfl⟩
theorem Encoding.ret_c : Encoding.Statement .ret_c := ⟨_, _, rfl, rfl⟩
theorem Encoding.reti : Encoding.Statement .reti := ⟨_, _, rfl, rfl⟩
theorem Encoding.jp_c_a16 (nn : Word) : Encoding.Statement (.jp_c_a16 nn) := ⟨_, _, rfl, rfl⟩
theorem Encoding.illegal_DB : Encoding.Statement .illegal_DB := ⟨_, _, rfl, rfl⟩
theorem Encoding.call_c_a16 (nn : Word) : Encoding.Statement (.call_c_a16 nn) := ⟨_, _, rfl, rfl⟩
theorem Encoding.illegal_DD : Encoding.Statement .illegal_DD := ⟨_, _, rfl, rfl⟩
theorem Encoding.sbc_a_d8 (n : Byte) : Encoding.Statement (.sbc_a_d8 n) := ⟨_, _, rfl, rfl⟩
theorem Encoding.rst_18 : Encoding.Statement .rst_18 := ⟨_, _, rfl, rfl⟩
theorem Encoding.ldh_at8_a (n : Byte) : Encoding.Statement (.ldh_at8_a n) := ⟨_, _, rfl, rfl⟩
theorem Encoding.pop_hl : Encoding.Statement .pop_hl := ⟨_, _, rfl, rfl⟩
theorem Encoding.ldh_atC_a : Encoding.Statement .ldh_atC_a := ⟨_, _, rfl, rfl⟩
theorem Encoding.illegal_E3 : Encoding.Statement .illegal_E3 := ⟨_, _, rfl, rfl⟩
theorem Encoding.illegal_E4 : Encoding.Statement .illegal_E4 := ⟨_, _, rfl, rfl⟩
theorem Encoding.push_hl : Encoding.Statement .push_hl := ⟨_, _, rfl, rfl⟩
theorem Encoding.and_d8 (n : Byte) : Encoding.Statement (.and_d8 n) := ⟨_, _, rfl, rfl⟩
theorem Encoding.rst_20 : Encoding.Statement .rst_20 := ⟨_, _, rfl, rfl⟩
theorem Encoding.add_sp_r8 (e : Byte) : Encoding.Statement (.add_sp_r8 e) := ⟨_, _, rfl, rfl⟩
theorem Encoding.jp_hl : Encoding.Statement .jp_hl := ⟨_, _, rfl, rfl⟩
theorem Encoding.ld_at16_a (nn : Word) : Encoding.Statement (.ld_at16_a nn) := ⟨_, _, rfl, rfl⟩
theorem Encoding.illegal_EB : Encoding.Statement .illegal_EB := ⟨_, _, rfl, rfl⟩
theorem Encoding.illegal_EC : Encoding.Statement .illegal_EC := ⟨_, _, rfl, rfl⟩
theorem Encoding.illegal_ED : Encoding.Statement .illegal_ED := ⟨_, _, rfl, rfl⟩
theorem Encoding.xor_d8 (n : Byte) : Encoding.Statement (.xor_d8 n) := ⟨_, _, rfl, rfl⟩
theorem Encoding.rst_28 : Encoding.Statement .rst_28 := ⟨_, _, rfl, rfl⟩
theorem Encoding.ldh_a_at8 (n : Byte) : Encoding.Statement (.ldh_a_at8 n) := ⟨_, _, rfl, rfl⟩
theorem Encoding.pop_af : Encoding.Statement .pop_af := ⟨_, _, rfl, rfl⟩
theorem Encoding.ldh_a_atC : Encoding.Statement .ldh_a_atC := ⟨_, _, rfl, rfl⟩
theorem Encoding.di : Encoding.Statement .di := ⟨_, _, rfl, rfl⟩
theorem Encoding.illegal_F4 : Encoding.Statement .illegal_F4 := ⟨_, _, rfl, rfl⟩
theorem Encoding.push_af : Encoding.Statement .push_af := ⟨_, _, rfl, rfl⟩
theorem Encoding.or_d8 (n : Byte) : Encoding.Statement (.or_d8 n) := ⟨_, _, rfl, rfl⟩
theorem Encoding.rst_30 : Encoding.Statement .rst_30 := ⟨_, _, rfl, rfl⟩
theorem Encoding.ld_hl_sp_r8 (e : Byte) : Encoding.Statement (.ld_hl_sp_r8 e) := ⟨_, _, rfl, rfl⟩
theorem Encoding.ld_sp_hl : Encoding.Statement .ld_sp_hl := ⟨_, _, rfl, rfl⟩
theorem Encoding.ld_a_at16 (nn : Word) : Encoding.Statement (.ld_a_at16 nn) := ⟨_, _, rfl, rfl⟩
theorem Encoding.ei : Encoding.Statement .ei := ⟨_, _, rfl, rfl⟩
theorem Encoding.illegal_FC : Encoding.Statement .illegal_FC := ⟨_, _, rfl, rfl⟩
theorem Encoding.illegal_FD : Encoding.Statement .illegal_FD := ⟨_, _, rfl, rfl⟩
theorem Encoding.cp_d8 (n : Byte) : Encoding.Statement (.cp_d8 n) := ⟨_, _, rfl, rfl⟩
theorem Encoding.rst_38 : Encoding.Statement .rst_38 := ⟨_, _, rfl, rfl⟩
theorem Encoding.rlc_b : Encoding.Statement .rlc_b := ⟨_, _, rfl, rfl⟩
theorem Encoding.rlc_c : Encoding.Statement .rlc_c := ⟨_, _, rfl, rfl⟩
theorem Encoding.rlc_d : Encoding.Statement .rlc_d := ⟨_, _, rfl, rfl⟩
theorem Encoding.rlc_e : Encoding.Statement .rlc_e := ⟨_, _, rfl, rfl⟩
theorem Encoding.rlc_h : Encoding.Statement .rlc_h := ⟨_, _, rfl, rfl⟩
theorem Encoding.rlc_l : Encoding.Statement .rlc_l := ⟨_, _, rfl, rfl⟩
theorem Encoding.rlc_atHL : Encoding.Statement .rlc_atHL := ⟨_, _, rfl, rfl⟩
theorem Encoding.rlc_a : Encoding.Statement .rlc_a := ⟨_, _, rfl, rfl⟩
theorem Encoding.rrc_b : Encoding.Statement .rrc_b := ⟨_, _, rfl, rfl⟩
theorem Encoding.rrc_c : Encoding.Statement .rrc_c := ⟨_, _, rfl, rfl⟩
theorem Encoding.rrc_d : Encoding.Statement .rrc_d := ⟨_, _, rfl, rfl⟩
theorem Encoding.rrc_e : Encoding.Statement .rrc_e := ⟨_, _, rfl, rfl⟩
theorem Encoding.rrc_h : Encoding.Statement .rrc_h := ⟨_, _, rfl, rfl⟩
theorem Encoding.rrc_l : Encoding.Statement .rrc_l := ⟨_, _, rfl, rfl⟩
theorem Encoding.rrc_atHL : Encoding.Statement .rrc_atHL := ⟨_, _, rfl, rfl⟩
theorem Encoding.rrc_a : Encoding.Statement .rrc_a := ⟨_, _, rfl, rfl⟩
theorem Encoding.rl_b : Encoding.Statement .rl_b := ⟨_, _, rfl, rfl⟩
theorem Encoding.rl_c : Encoding.Statement .rl_c := ⟨_, _, rfl, rfl⟩
theorem Encoding.rl_d : Encoding.Statement .rl_d := ⟨_, _, rfl, rfl⟩
theorem Encoding.rl_e : Encoding.Statement .rl_e := ⟨_, _, rfl, rfl⟩
theorem Encoding.rl_h : Encoding.Statement .rl_h := ⟨_, _, rfl, rfl⟩
theorem Encoding.rl_l : Encoding.Statement .rl_l := ⟨_, _, rfl, rfl⟩
theorem Encoding.rl_atHL : Encoding.Statement .rl_atHL := ⟨_, _, rfl, rfl⟩
theorem Encoding.rl_a : Encoding.Statement .rl_a := ⟨_, _, rfl, rfl⟩
theorem Encoding.rr_b : Encoding.Statement .rr_b := ⟨_, _, rfl, rfl⟩
theorem Encoding.rr_c : Encoding.Statement .rr_c := ⟨_, _, rfl, rfl⟩
theorem Encoding.rr_d : Encoding.Statement .rr_d := ⟨_, _, rfl, rfl⟩
theorem Encoding.rr_e : Encoding.Statement .rr_e := ⟨_, _, rfl, rfl⟩
theorem Encoding.rr_h : Encoding.Statement .rr_h := ⟨_, _, rfl, rfl⟩
theorem Encoding.rr_l : Encoding.Statement .rr_l := ⟨_, _, rfl, rfl⟩
theorem Encoding.rr_atHL : Encoding.Statement .rr_atHL := ⟨_, _, rfl, rfl⟩
theorem Encoding.rr_a : Encoding.Statement .rr_a := ⟨_, _, rfl, rfl⟩
theorem Encoding.sla_b : Encoding.Statement .sla_b := ⟨_, _, rfl, rfl⟩
theorem Encoding.sla_c : Encoding.Statement .sla_c := ⟨_, _, rfl, rfl⟩
theorem Encoding.sla_d : Encoding.Statement .sla_d := ⟨_, _, rfl, rfl⟩
theorem Encoding.sla_e : Encoding.Statement .sla_e := ⟨_, _, rfl, rfl⟩
theorem Encoding.sla_h : Encoding.Statement .sla_h := ⟨_, _, rfl, rfl⟩
theorem Encoding.sla_l : Encoding.Statement .sla_l := ⟨_, _, rfl, rfl⟩
theorem Encoding.sla_atHL : Encoding.Statement .sla_atHL := ⟨_, _, rfl, rfl⟩
theorem Encoding.sla_a : Encoding.Statement .sla_a := ⟨_, _, rfl, rfl⟩
theorem Encoding.sra_b : Encoding.Statement .sra_b := ⟨_, _, rfl, rfl⟩
theorem Encoding.sra_c : Encoding.Statement .sra_c := ⟨_, _, rfl, rfl⟩
theorem Encoding.sra_d : Encoding.Statement .sra_d := ⟨_, _, rfl, rfl⟩
theorem Encoding.sra_e : Encoding.Statement .sra_e := ⟨_, _, rfl, rfl⟩
theorem Encoding.sra_h : Encoding.Statement .sra_h := ⟨_, _, rfl, rfl⟩
theorem Encoding.sra_l : Encoding.Statement .sra_l := ⟨_, _, rfl, rfl⟩
theorem Encoding.sra_atHL : Encoding.Statement .sra_atHL := ⟨_, _, rfl, rfl⟩
theorem Encoding.sra_a : Encoding.Statement .sra_a := ⟨_, _, rfl, rfl⟩
theorem Encoding.swap_b : Encoding.Statement .swap_b := ⟨_, _, rfl, rfl⟩
theorem Encoding.swap_c : Encoding.Statement .swap_c := ⟨_, _, rfl, rfl⟩
theorem Encoding.swap_d : Encoding.Statement .swap_d := ⟨_, _, rfl, rfl⟩
theorem Encoding.swap_e : Encoding.Statement .swap_e := ⟨_, _, rfl, rfl⟩
theorem Encoding.swap_h : Encoding.Statement .swap_h := ⟨_, _, rfl, rfl⟩
theorem Encoding.swap_l : Encoding.Statement .swap_l := ⟨_, _, rfl, rfl⟩
theorem Encoding.swap_atHL : Encoding.Statement .swap_atHL := ⟨_, _, rfl, rfl⟩
theorem Encoding.swap_a : Encoding.Statement .swap_a := ⟨_, _, rfl, rfl⟩
theorem Encoding.srl_b : Encoding.Statement .srl_b := ⟨_, _, rfl, rfl⟩
theorem Encoding.srl_c : Encoding.Statement .srl_c := ⟨_, _, rfl, rfl⟩
theorem Encoding.srl_d : Encoding.Statement .srl_d := ⟨_, _, rfl, rfl⟩
theorem Encoding.srl_e : Encoding.Statement .srl_e := ⟨_, _, rfl, rfl⟩
theorem Encoding.srl_h : Encoding.Statement .srl_h := ⟨_, _, rfl, rfl⟩
theorem Encoding.srl_l : Encoding.Statement .srl_l := ⟨_, _, rfl, rfl⟩
theorem Encoding.srl_atHL : Encoding.Statement .srl_atHL := ⟨_, _, rfl, rfl⟩
theorem Encoding.srl_a : Encoding.Statement .srl_a := ⟨_, _, rfl, rfl⟩
theorem Encoding.bit_0_b : Encoding.Statement .bit_0_b := ⟨_, _, rfl, rfl⟩
theorem Encoding.bit_0_c : Encoding.Statement .bit_0_c := ⟨_, _, rfl, rfl⟩
theorem Encoding.bit_0_d : Encoding.Statement .bit_0_d := ⟨_, _, rfl, rfl⟩
theorem Encoding.bit_0_e : Encoding.Statement .bit_0_e := ⟨_, _, rfl, rfl⟩
theorem Encoding.bit_0_h : Encoding.Statement .bit_0_h := ⟨_, _, rfl, rfl⟩
theorem Encoding.bit_0_l : Encoding.Statement .bit_0_l := ⟨_, _, rfl, rfl⟩
theorem Encoding.bit_0_atHL : Encoding.Statement .bit_0_atHL := ⟨_, _, rfl, rfl⟩
theorem Encoding.bit_0_a : Encoding.Statement .bit_0_a := ⟨_, _, rfl, rfl⟩
theorem Encoding.bit_1_b : Encoding.Statement .bit_1_b := ⟨_, _, rfl, rfl⟩
theorem Encoding.bit_1_c : Encoding.Statement .bit_1_c := ⟨_, _, rfl, rfl⟩
theorem Encoding.bit_1_d : Encoding.Statement .bit_1_d := ⟨_, _, rfl, rfl⟩
theorem Encoding.bit_1_e : Encoding.Statement .bit_1_e := ⟨_, _, rfl, rfl⟩
theorem Encoding.bit_1_h : Encoding.Statement .bit_1_h := ⟨_, _, rfl, rfl⟩
theorem Encoding.bit_1_l : Encoding.Statement .bit_1_l := ⟨_, _, rfl, rfl⟩
theorem Encoding.bit_1_atHL : Encoding.Statement .bit_1_atHL := ⟨_, _, rfl, rfl⟩
theorem Encoding.bit_1_a : Encoding.Statement .bit_1_a := ⟨_, _, rfl, rfl⟩
theorem Encoding.bit_2_b : Encoding.Statement .bit_2_b := ⟨_, _, rfl, rfl⟩
theorem Encoding.bit_2_c : Encoding.Statement .bit_2_c := ⟨_, _, rfl, rfl⟩
theorem Encoding.bit_2_d : Encoding.Statement .bit_2_d := ⟨_, _, rfl, rfl⟩
theorem Encoding.bit_2_e : Encoding.Statement .bit_2_e := ⟨_, _, rfl, rfl⟩
theorem Encoding.bit_2_h : Encoding.Statement .bit_2_h := ⟨_, _, rfl, rfl⟩
theorem Encoding.bit_2_l : Encoding.Statement .bit_2_l := ⟨_, _, rfl, rfl⟩
theorem Encoding.bit_2_atHL : Encoding.Statement .bit_2_atHL := ⟨_, _, rfl, rfl⟩
theorem Encoding.bit_2_a : Encoding.Statement .bit_2_a := ⟨_, _, rfl, rfl⟩
theorem Encoding.bit_3_b : Encoding.Statement .bit_3_b := ⟨_, _, rfl, rfl⟩
theorem Encoding.bit_3_c : Encoding.Statement .bit_3_c := ⟨_, _, rfl, rfl⟩
theorem Encoding.bit_3_d : Encoding.Statement .bit_3_d := ⟨_, _, rfl, rfl⟩
theorem Encoding.bit_3_e : Encoding.Statement .bit_3_e := ⟨_, _, rfl, rfl⟩
theorem Encoding.bit_3_h : Encoding.Statement .bit_3_h := ⟨_, _, rfl, rfl⟩
theorem Encoding.bit_3_l : Encoding.Statement .bit_3_l := ⟨_, _, rfl, rfl⟩
theorem Encoding.bit_3_atHL : Encoding.Statement .bit_3_atHL := ⟨_, _, rfl, rfl⟩
theorem Encoding.bit_3_a : Encoding.Statement .bit_3_a := ⟨_, _, rfl, rfl⟩
theorem Encoding.bit_4_b : Encoding.Statement .bit_4_b := ⟨_, _, rfl, rfl⟩
theorem Encoding.bit_4_c : Encoding.Statement .bit_4_c := ⟨_, _, rfl, rfl⟩
theorem Encoding.bit_4_d : Encoding.Statement .bit_4_d := ⟨_, _, rfl, rfl⟩
theorem Encoding.bit_4_e : Encoding.Statement .bit_4_e := ⟨_, _, rfl, rfl⟩
theorem Encoding.bit_4_h : Encoding.Statement .bit_4_h := ⟨_, _, rfl, rfl⟩
theorem Encoding.bit_4_l : Encoding.Statement .bit_4_l := ⟨_, _, rfl, rfl⟩
theorem Encoding.bit_4_atHL : Encoding.Statement .bit_4_atHL := ⟨_, _, rfl, rfl⟩
theorem Encoding.bit_4_a : Encoding.Statement .bit_4_a := ⟨_, _, rfl, rfl⟩
theorem Encoding.bit_5_b : Encoding.Statement .bit_5_b := ⟨_, _, rfl, rfl⟩
theorem Encoding.bit_5_c : Encoding.Statement .bit_5_c := ⟨_, _, rfl, rfl⟩
theorem Encoding.bit_5_d : Encoding.Statement .bit_5_d := ⟨_, _, rfl, rfl⟩
theorem Encoding.bit_5_e : Encoding.Statement .bit_5_e := ⟨_, _, rfl, rfl⟩
theorem Encoding.bit_5_h : Encoding.Statement .bit_5_h := ⟨_, _, rfl, rfl⟩
theorem Encoding.bit_5_l : Encoding.Statement .bit_5_l := ⟨_, _, rfl, rfl⟩
theorem Encoding.bit_5_atHL : Encoding.Statement .bit_5_atHL := ⟨_, _, rfl, rfl⟩
theorem Encoding.bit_5_a : Encoding.Statement .bit_5_a := ⟨_, _, rfl, rfl⟩
theorem Encoding.bit_6_b : Encoding.Statement .bit_6_b := ⟨_, _, rfl, rfl⟩
theorem Encoding.bit_6_c : Encoding.Statement .bit_6_c := ⟨_, _, rfl, rfl⟩
theorem Encoding.bit_6_d : Encoding.Statement .bit_6_d := ⟨_, _, rfl, rfl⟩
theorem Encoding.bit_6_e : Encoding.Statement .bit_6_e := ⟨_, _, rfl, rfl⟩
theorem Encoding.bit_6_h : Encoding.Statement .bit_6_h := ⟨_, _, rfl, rfl⟩
theorem Encoding.bit_6_l : Encoding.Statement .bit_6_l := ⟨_, _, rfl, rfl⟩
theorem Encoding.bit_6_atHL : Encoding.Statement .bit_6_atHL := ⟨_, _, rfl, rfl⟩
theorem Encoding.bit_6_a : Encoding.Statement .bit_6_a := ⟨_, _, rfl, rfl⟩
theorem Encoding.bit_7_b : Encoding.Statement .bit_7_b := ⟨_, _, rfl, rfl⟩
theorem Encoding.bit_7_c : Encoding.Statement .bit_7_c := ⟨_, _, rfl, rfl⟩
theorem Encoding.bit_7_d : Encoding.Statement .bit_7_d := ⟨_, _, rfl, rfl⟩
theorem Encoding.bit_7_e : Encoding.Statement .bit_7_e := ⟨_, _, rfl, rfl⟩
theorem Encoding.bit_7_h : Encoding.Statement .bit_7_h := ⟨_, _, rfl, rfl⟩
theorem Encoding.bit_7_l : Encoding.Statement .bit_7_l := ⟨_, _, rfl, rfl⟩
theorem Encoding.bit_7_atHL : Encoding.Statement .bit_7_atHL := ⟨_, _, rfl, rfl⟩
theorem Encoding.bit_7_a : Encoding.Statement .bit_7_a := ⟨_, _, rfl, rfl⟩
theorem Encoding.res_0_b : Encoding.Statement .res_0_b := ⟨_, _, rfl, rfl⟩
theorem Encoding.res_0_c : Encoding.Statement .res_0_c := ⟨_, _, rfl, rfl⟩
theorem Encoding.res_0_d : Encoding.Statement .res_0_d := ⟨_, _, rfl, rfl⟩
theorem Encoding.res_0_e : Encoding.Statement .res_0_e := ⟨_, _, rfl, rfl⟩
theorem Encoding.res_0_h : Encoding.Statement .res_0_h := ⟨_, _, rfl, rfl⟩
theorem Encoding.res_0_l : Encoding.Statement .res_0_l := ⟨_, _, rfl, rfl⟩
theorem Encoding.res_0_atHL : Encoding.Statement .res_0_atHL := ⟨_, _, rfl, rfl⟩
theorem Encoding.res_0_a : Encoding.Statement .res_0_a := ⟨_, _, rfl, rfl⟩
theorem Encoding.res_1_b : Encoding.Statement .res_1_b := ⟨_, _, rfl, rfl⟩
theorem Encoding.res_1_c : Encoding.Statement .res_1_c := ⟨_, _, rfl, rfl⟩
theorem Encoding.res_1_d : Encoding.Statement .res_1_d := ⟨_, _, rfl, rfl⟩
theorem Encoding.res_1_e : Encoding.Statement .res_1_e := ⟨_, _, rfl, rfl⟩
theorem Encoding.res_1_h : Encoding.Statement .res_1_h := ⟨_, _, rfl, rfl⟩
theorem Encoding.res_1_l : Encoding.Statement .res_1_l := ⟨_, _, rfl, rfl⟩
theorem Encoding.res_1_atHL : Encoding.Statement .res_1_atHL := ⟨_, _, rfl, rfl⟩
theorem Encoding.res_1_a : Encoding.Statement .res_1_a := ⟨_, _, rfl, rfl⟩
theorem Encoding.res_2_b : Encoding.Statement .res_2_b := ⟨_, _, rfl, rfl⟩
theorem Encoding.res_2_c : Encoding.Statement .res_2_c := ⟨_, _, rfl, rfl⟩
theorem Encoding.res_2_d : Encoding.Statement .res_2_d := ⟨_, _, rfl, rfl⟩
theorem Encoding.res_2_e : Encoding.Statement .res_2_e := ⟨_, _, rfl, rfl⟩
theorem Encoding.res_2_h : Encoding.Statement .res_2_h := ⟨_, _, rfl, rfl⟩
theorem Encoding.res_2_l : Encoding.Statement .res_2_l := ⟨_, _, rfl, rfl⟩
theorem Encoding.res_2_atHL : Encoding.Statement .res_2_atHL := ⟨_, _, rfl, rfl⟩
theorem Encoding.res_2_a : Encoding.Statement .res_2_a := ⟨_, _, rfl, rfl⟩
theorem Encoding.res_3_b : Encoding.Statement .res_3_b := ⟨_, _, rfl, rfl⟩
theorem Encoding.res_3_c : Encoding.Statement .res_3_c := ⟨_, _, rfl, rfl⟩
theorem Encoding.res_3_d : Encoding.Statement .res_3_d := ⟨_, _, rfl, rfl⟩
theorem Encoding.res_3_e : Encoding.Statement .res_3_e := ⟨_, _, rfl, rfl⟩
theorem Encoding.res_3_h : Encoding.Statement .res_3_h := ⟨_, _, rfl, rfl⟩
theorem Encoding.res_3_l : Encoding.Statement .res_3_l := ⟨_, _, rfl, rfl⟩
theorem Encoding.res_3_atHL : Encoding.Statement .res_3_atHL := ⟨_, _, rfl, rfl⟩
theorem Encoding.res_3_a : Encoding.Statement .res_3_a := ⟨_, _, rfl, rfl⟩
theorem Encoding.res_4_b : Encoding.Statement .res_4_b := ⟨_, _, rfl, rfl⟩
theorem Encoding.res_4_c : Encoding.Statement .res_4_c := ⟨_, _, rfl, rfl⟩
theorem Encoding.res_4_d : Encoding.Statement .res_4_d := ⟨_, _, rfl, rfl⟩
theorem Encoding.res_4_e : Encoding.Statement .res_4_e := ⟨_, _, rfl, rfl⟩
theorem Encoding.res_4_h : Encoding.Statement .res_4_h := ⟨_, _, rfl, rfl⟩
theorem Encoding.res_4_l : Encoding.Statement .res_4_l := ⟨_, _, rfl, rfl⟩
theorem Encoding.res_4_atHL : Encoding.Statement .res_4_atHL := ⟨_, _, rfl, rfl⟩
theorem Encoding.res_4_a : Encoding.Statement .res_4_a := ⟨_, _, rfl, rfl⟩
theorem Encoding.res_5_b : Encoding.Statement .res_5_b := ⟨_, _, rfl, rfl⟩
theorem Encoding.res_5_c : Encoding.Statement .res_5_c := ⟨_, _, rfl, rfl⟩
theorem Encoding.res_5_d : Encoding.Statement .res_5_d := ⟨_, _, rfl, rfl⟩
theorem Encoding.res_5_e : Encoding.Statement .res_5_e := ⟨_, _, rfl, rfl⟩
theorem Encoding.res_5_h : Encoding.Statement .res_5_h := ⟨_, _, rfl, rfl⟩
theorem Encoding.res_5_l : Encoding.Statement .res_5_l := ⟨_, _, rfl, rfl⟩
theorem Encoding.res_5_atHL : Encoding.Statement .res_5_atHL := ⟨_, _, rfl, rfl⟩
theorem Encoding.res_5_a : Encoding.Statement .res_5_a := ⟨_, _, rfl, rfl⟩
theorem Encoding.res_6_b : Encoding.Statement .res_6_b := ⟨_, _, rfl, rfl⟩
theorem Encoding.res_6_c : Encoding.Statement .res_6_c := ⟨_, _, rfl, rfl⟩
theorem Encoding.res_6_d : Encoding.Statement .res_6_d := ⟨_, _, rfl, rfl⟩
theorem Encoding.res_6_e : Encoding.Statement .res_6_e := ⟨_, _, rfl, rfl⟩
theorem Encoding.res_6_h : Encoding.Statement .res_6_h := ⟨_, _, rfl, rfl⟩
theorem Encoding.res_6_l : Encoding.Statement .res_6_l := ⟨_, _, rfl, rfl⟩
theorem Encoding.res_6_atHL : Encoding.Statement .res_6_atHL := ⟨_, _, rfl, rfl⟩
theorem Encoding.res_6_a : Encoding.Statement .res_6_a := ⟨_, _, rfl, rfl⟩
theorem Encoding.res_7_b : Encoding.Statement .res_7_b := ⟨_, _, rfl, rfl⟩
theorem Encoding.res_7_c : Encoding.Statement .res_7_c := ⟨_, _, rfl, rfl⟩
theorem Encoding.res_7_d : Encoding.Statement .res_7_d := ⟨_, _, rfl, rfl⟩
theorem Encoding.res_7_e : Encoding.Statement .res_7_e := ⟨_, _, rfl, rfl⟩
theorem Encoding.res_7_h : Encoding.Statement .res_7_h := ⟨_, _, rfl, rfl⟩
theorem Encoding.res_7_l : Encoding.Statement .res_7_l := ⟨_, _, rfl, rfl⟩
theorem Encoding.res_7_atHL : Encoding.Statement .res_7_atHL := ⟨_, _, rfl, rfl⟩
theorem Encoding.res_7_a : Encoding.Statement .res_7_a := ⟨_, _, rfl, rfl⟩
theorem Encoding.set_0_b : Encoding.Statement .set_0_b := ⟨_, _, rfl, rfl⟩
theorem Encoding.set_0_c : Encoding.Statement .set_0_c := ⟨_, _, rfl, rfl⟩
theorem Encoding.set_0_d : Encoding.Statement .set_0_d := ⟨_, _, rfl, rfl⟩
theorem Encoding.set_0_e : Encoding.Statement .set_0_e := ⟨_, _, rfl, rfl⟩
theorem Encoding.set_0_h : Encoding.Statement .set_0_h := ⟨_, _, rfl, rfl⟩
theorem Encoding.set_0_l : Encoding.Statement .set_0_l := ⟨_, _, rfl, rfl⟩
theorem Encoding.set_0_atHL : Encoding.Statement .set_0_atHL := ⟨_, _, rfl, rfl⟩
theorem Encoding.set_0_a : Encoding.Statement .set_0_a := ⟨_, _, rfl, rfl⟩
theorem Encoding.set_1_b : Encoding.Statement .set_1_b := ⟨_, _, rfl, rfl⟩
theorem Encoding.set_1_c : Encoding.Statement .set_1_c := ⟨_, _, rfl, rfl⟩
theorem Encoding.set_1_d : Encoding.Statement .set_1_d := ⟨_, _, rfl, rfl⟩
theorem Encoding.set_1_e : Encoding.Statement .set_1_e := ⟨_, _, rfl, rfl⟩
theorem Encoding.set_1_h : Encoding.Statement .set_1_h := ⟨_, _, rfl, rfl⟩
theorem Encoding.set_1_l : Encoding.Statement .set_1_l := ⟨_, _, rfl, rfl⟩
theorem Encoding.set_1_atHL : Encoding.Statement .set_1_atHL := ⟨_, _, rfl, rfl⟩
theorem Encoding.set_1_a : Encoding.Statement .set_1_a := ⟨_, _, rfl, rfl⟩
theorem Encoding.set_2_b : Encoding.Statement .set_2_b := ⟨_, _, rfl, rfl⟩
theorem Encoding.set_2_c : Encoding.Statement .set_2_c := ⟨_, _, rfl, rfl⟩
theorem Encoding.set_2_d : Encoding.Statement .set_2_d := ⟨_, _, rfl, rfl⟩
theorem Encoding.set_2_e : Encoding.Statement .set_2_e := ⟨_, _, rfl, rfl⟩
theorem Encoding.set_2_h : Encoding.Statement .set_2_h := ⟨_, _, rfl, rfl⟩
theorem Encoding.set_2_l : Encoding.Statement .set_2_l := ⟨_, _, rfl, rfl⟩
theorem Encoding.set_2_atHL : Encoding.Statement .set_2_atHL := ⟨_, _, rfl, rfl⟩
theorem Encoding.set_2_a : Encoding.Statement .set_2_a := ⟨_, _, rfl, rfl⟩
theorem Encoding.set_3_b : Encoding.Statement .set_3_b := ⟨_, _, rfl, rfl⟩
theorem Encoding.set_3_c : Encoding.Statement .set_3_c := ⟨_, _, rfl, rfl⟩
theorem Encoding.set_3_d : Encoding.Statement .set_3_d := ⟨_, _, rfl, rfl⟩
theorem Encoding.set_3_e : Encoding.Statement .set_3_e := ⟨_, _, rfl, rfl⟩
theorem Encoding.set_3_h : Encoding.Statement .set_3_h := ⟨_, _, rfl, rfl⟩
theorem Encoding.set_3_l : Encoding.Statement .set_3_l := ⟨_, _, rfl, rfl⟩
theorem Encoding.set_3_atHL : Encoding.Statement .set_3_atHL := ⟨_, _, rfl, rfl⟩
theorem Encoding.set_3_a : Encoding.Statement .set_3_a := ⟨_, _, rfl, rfl⟩
theorem Encoding.set_4_b : Encoding.Statement .set_4_b := ⟨_, _, rfl, rfl⟩
theorem Encoding.set_4_c : Encoding.Statement .set_4_c := ⟨_, _, rfl, rfl⟩
theorem Encoding.set_4_d : Encoding.Statement .set_4_d := ⟨_, _, rfl, rfl⟩
theorem Encoding.set_4_e : Encoding.Statement .set_4_e := ⟨_, _, rfl, rfl⟩
theorem Encoding.set_4_h : Encoding.Statement .set_4_h := ⟨_, _, rfl, rfl⟩
theorem Encoding.set_4_l : Encoding.Statement .set_4_l := ⟨_, _, rfl, rfl⟩
theorem Encoding.set_4_atHL : Encoding.Statement .set_4_atHL := ⟨_, _, rfl, rfl⟩
theorem Encoding.set_4_a : Encoding.Statement .set_4_a := ⟨_, _, rfl, rfl⟩
theorem Encoding.set_5_b : Encoding.Statement .set_5_b := ⟨_, _, rfl, rfl⟩
theorem Encoding.set_5_c : Encoding.Statement .set_5_c := ⟨_, _, rfl, rfl⟩
theorem Encoding.set_5_d : Encoding.Statement .set_5_d := ⟨_, _, rfl, rfl⟩
theorem Encoding.set_5_e : Encoding.Statement .set_5_e := ⟨_, _, rfl, rfl⟩
theorem Encoding.set_5_h : Encoding.Statement .set_5_h := ⟨_, _, rfl, rfl⟩
theorem Encoding.set_5_l : Encoding.Statement .set_5_l := ⟨_, _, rfl, rfl⟩
theorem Encoding.set_5_atHL : Encoding.Statement .set_5_atHL := ⟨_, _, rfl, rfl⟩
theorem Encoding.set_5_a : Encoding.Statement .set_5_a := ⟨_, _, rfl, rfl⟩
theorem Encoding.set_6_b : Encoding.Statement .set_6_b := ⟨_, _, rfl, rfl⟩
theorem Encoding.set_6_c : Encoding.Statement .set_6_c := ⟨_, _, rfl, rfl⟩
theorem Encoding.set_6_d : Encoding.Statement .set_6_d := ⟨_, _, rfl, rfl⟩
theorem Encoding.set_6_e : Encoding.Statement .set_6_e := ⟨_, _, rfl, rfl⟩
theorem Encoding.set_6_h : Encoding.Statement .set_6_h := ⟨_, _, rfl, rfl⟩
theorem Encoding.set_6_l : Encoding.Statement .set_6_l := ⟨_, _, rfl, rfl⟩
theorem Encoding.set_6_atHL : Encoding.Statement .set_6_atHL := ⟨_, _, rfl, rfl⟩
theorem Encoding.set_6_a : Encoding.Statement .set_6_a := ⟨_, _, rfl, rfl⟩
theorem Encoding.set_7_b : Encoding.Statement .set_7_b := ⟨_, _, rfl, rfl⟩
theorem Encoding.set_7_c : Encoding.Statement .set_7_c := ⟨_, _, rfl, rfl⟩
theorem Encoding.set_7_d : Encoding.Statement .set_7_d := ⟨_, _, rfl, rfl⟩
theorem Encoding.set_7_e : Encoding.Statement .set_7_e := ⟨_, _, rfl, rfl⟩
theorem Encoding.set_7_h : Encoding.Statement .set_7_h := ⟨_, _, rfl, rfl⟩
theorem Encoding.set_7_l : Encoding.Statement .set_7_l := ⟨_, _, rfl, rfl⟩
theorem Encoding.set_7_atHL : Encoding.Statement .set_7_atHL := ⟨_, _, rfl, rfl⟩
theorem Encoding.set_7_a : Encoding.Statement .set_7_a := ⟨_, _, rfl, rfl⟩

end Sys2Proof.Laws
end

