-- ==== Sys2Proof/Tests/Slice0.lean ====
section
/-! SUPPORT. Tests: the spec's vectors (95_test_vectors.md), words written out from 30_encoding.md and the
Encoding lines of 40_loads.md to 45_system.md, and a witness for every statement that has hypotheses.
A vector whose IE is not zero is checked on ClockCpu or HandleInterrupts alone, because what IF holds
after a `Clock(4)` is the Peripherals' free value. -/

namespace Sys2Proof.Tests

open Sys2Proof.Machine Sys2Proof.Claims

/-- The vectors' start state: a blank 32KB NoBanking cartridge and the values of Reset, PC at 0x0150. -/
def start : State := { State.reset with cart := blankCart, pc := 0x0150 }

/-- `s` with bytes stored in RAM and an instruction's bytes at its PC. -/
def holding (s : State) (ram : List (Word × Byte)) (code : List Byte) : State :=
  placeBytes (ram.foldl (fun t p => flatWrite t p.1 p.2) s) s.pc code

/-- The answer is a next state, and it passes a check. -/
def nextIs (r : Result) (p : State → Bool) : Bool :=
  match r with
  | .next t => p t
  | .fault _ => false
  | .refused _ => false

/-! ## Well-formedness -/

/-- The prefix by itself is no instruction (R808), whatever byte follows; its secondary row is one. -/
theorem test_wellformed_refuses_prefix :
    WellFormed (.prefix_CB 0x00) = false ∧ WellFormed (.prefix_CB 0xFF) = false ∧
    WellFormed (secondaryInstr 0x00) = true := by
  decide

/-! ## Words written out from the encodings -/

/-- 00 110 110 nnnnnnnn is LD (HL),n; 01 ddd sss is LD r,r'; 11 11 0101 is PUSH AF (40_loads.md). -/
theorem test_decode_loads :
    decode [0b00110110, 0x42] = .ok (.ld_atHL_d8 0x42, []) ∧
    decode [0b01100111] = .ok (.ld_h_a, []) ∧
    decode [0b11101010, 0x01, 0xC1] = .ok (.ld_at16_a 0xC101, []) ∧
    decode [0b11110101] = .ok (.push_af, []) :=
  ⟨rfl, rfl, rfl, rfl⟩

/-- 10 ooo sss and 11 ooo 110 are the ALU forms, o = 011 SBC and o = 111 CP (41_alu8.md). -/
theorem test_decode_alu8 :
    decode [0b10011011] = .ok (.sbc_a_e, []) ∧
    decode [0b11111110, 0x3C] = .ok (.cp_d8 0x3C, []) ∧
    decode [0b00110101] = .ok (.dec_atHL, []) ∧
    decode [0b00100111] = .ok (.daa, []) :=
  ⟨rfl, rfl, rfl, rfl⟩

/-- 00 pp 1001 is ADD HL,rr; 11101000 eeeeeeee is ADD SP,e (42_alu16.md). -/
theorem test_decode_alu16 :
    decode [0b00111001] = .ok (.add_hl_sp, []) ∧
    decode [0b11101000, 0xFE] = .ok (.add_sp_r8 0xFE, []) :=
  ⟨rfl, rfl⟩

/-- Behind 0xCB, 00 ooo sss shifts and 01, 10 and 11 bbb sss are BIT, RES and SET (43_rotate_bit.md). -/
theorem test_decode_bits :
    decode [0xCB, 0b00110110] = .ok (.swap_atHL, []) ∧
    decode [0xCB, 0b01000110] = .ok (.bit_0_atHL, []) ∧
    decode [0xCB, 0b10111000] = .ok (.res_7_b, []) ∧
    decode [0xCB, 0b11111111] = .ok (.set_7_a, []) ∧
    decode [0b00011111] = .ok (.rra, []) :=
  ⟨rfl, rfl, rfl, rfl, rfl⟩

/-- 001 cc 000 is JR cc, 110 cc 010 JP cc, 110 cc 100 CALL cc, 110 cc 000 RET cc, 11 ttt 111 RST
(44_control.md). -/
theorem test_decode_control :
    decode [0b00110000, 0xFD] = .ok (.jr_nc_r8 0xFD, []) ∧
    decode [0b11011010, 0x00, 0x02] = .ok (.jp_c_a16 0x0200, []) ∧
    decode [0b11010100, 0x34, 0x12] = .ok (.call_nc_a16 0x1234, []) ∧
    decode [0b11001000] = .ok (.ret_z, []) ∧
    decode [0b11011001] = .ok (.reti, []) ∧
    decode [0b11111111] = .ok (.rst_38, []) :=
  ⟨rfl, rfl, rfl, rfl, rfl, rfl⟩

/-- HALT is 0x76, STOP two bytes, and 0xED is one of the eleven illegal bytes (45_system.md). -/
theorem test_decode_system :
    decode [0b01110110] = .ok (.halt, []) ∧
    decode [0b00010000, 0x00] = .ok (.stop, []) ∧
    decode [0b11110011] = .ok (.di, []) ∧
    decode [0b11101101] = .ok (.illegal_ED, []) :=
  ⟨rfl, rfl, rfl, rfl⟩

/-- Too few bytes are refused by name. -/
theorem test_decode_truncated :
    decode [] = .error .empty ∧ decode [0xC3, 0x50] = .error (.truncated 0xC3) ∧
    decode [0xCB] = .error (.truncated 0xCB) :=
  ⟨rfl, rfl, rfl⟩

/-! ## The vectors of instructions, one theorem a rule -/

/-- R300: vectors VL1, VL2. -/
theorem test_rule_300 :
  nextIs (step (holding ({ start with a := 0x5A, b := 0x00 }) [] [0x47]))
      (fun t => t.a == 0x5A && t.b == 0x5A && t.pc == 0x0151 && t.ticks == 4) = true ∧
  nextIs (step (holding ({ start with a := 0x5A }) [] [0x7F]))
      (fun t => t.a == 0x5A && t.pc == 0x0151 && t.ticks == 4) = true := by
  decide

/-- R301: vectors VL3. -/
theorem test_rule_301 :
  nextIs (step (holding ({ start with c := 0x00 }) [] [0x0E, 0xFE]))
      (fun t => t.c == 0xFE && t.pc == 0x0152 && t.ticks == 8) = true := by
  decide

/-- R302: vectors VL4, VL5. -/
theorem test_rule_302 :
  nextIs (step (holding ({ start with h := 0xC1, l := 0x23, e := 0x00 }) [(0xC123, 0x99)] [0x5E]))
      (fun t => t.e == 0x99 && t.h == 0xC1 && t.l == 0x23 && t.pc == 0x0151 && t.ticks == 8) = true ∧
  nextIs (step (holding ({ start with h := 0xC1, l := 0x23 }) [(0xC123, 0x77)] [0x66]))
      (fun t => t.h == 0x77 && t.l == 0x23 && t.pc == 0x0151 && t.ticks == 8) = true := by
  decide

/-- R303: vectors VL6. -/
theorem test_rule_303 :
  nextIs (step (holding ({ start with h := 0xC0, l := 0x10 }) [] [0x75]))
      (fun t => t.h == 0xC0 && t.l == 0x10 && t.pc == 0x0151 && flatRead t 0xC010 == 0x10 &&
        t.ticks == 8) = true := by
  decide

/-- R304: vectors VL7. -/
theorem test_rule_304 :
  nextIs (step (holding ({ start with h := 0xC0, l := 0x00 }) [] [0x36, 0x42]))
      (fun t => t.h == 0xC0 && t.l == 0x00 && t.pc == 0x0152 && flatRead t 0xC000 == 0x42 &&
        t.ticks == 12) = true := by
  decide

/-- R305: vectors VL8. -/
theorem test_rule_305 :
  nextIs (step (holding ({ start with b := 0xC0, c := 0x05, a := 0x00 }) [(0xC005, 0x3C)] [0x0A]))
      (fun t => t.a == 0x3C && t.b == 0xC0 && t.c == 0x05 && t.pc == 0x0151 && t.ticks == 8) = true := by
  decide

/-- R306: vectors VL9. -/
theorem test_rule_306 :
  nextIs (step (holding ({ start with d := 0xC0, e := 0x06, a := 0x00 }) [(0xC006, 0x4D)] [0x1A]))
      (fun t => t.a == 0x4D && t.d == 0xC0 && t.e == 0x06 && t.pc == 0x0151 && t.ticks == 8) = true := by
  decide

/-- R307: vectors VL10. -/
theorem test_rule_307 :
  nextIs (step (holding ({ start with b := 0xC0, c := 0x07, a := 0x11 }) [] [0x02]))
      (fun t => t.a == 0x11 && t.b == 0xC0 && t.c == 0x07 && t.pc == 0x0151 &&
        flatRead t 0xC007 == 0x11 && t.ticks == 8) = true := by
  decide

/-- R308: vectors VL11. -/
theorem test_rule_308 :
  nextIs (step (holding ({ start with d := 0xC0, e := 0x08, a := 0x22 }) [] [0x12]))
      (fun t => t.a == 0x22 && t.d == 0xC0 && t.e == 0x08 && t.pc == 0x0151 &&
        flatRead t 0xC008 == 0x22 && t.ticks == 8) = true := by
  decide

/-- R309: vectors VL12. -/
theorem test_rule_309 :
  nextIs (step (holding ({ start with a := 0x00 }) [(0xC100, 0xAB)] [0xFA, 0x00, 0xC1]))
      (fun t => t.a == 0xAB && t.pc == 0x0153 && t.ticks == 16) = true := by
  decide

/-- R310: vectors VL13. -/
theorem test_rule_310 :
  nextIs (step (holding ({ start with a := 0xCD }) [] [0xEA, 0x01, 0xC1]))
      (fun t => t.a == 0xCD && t.pc == 0x0153 && flatRead t 0xC101 == 0xCD && t.ticks == 16) = true := by
  decide

/-- R311: vectors VL14. -/
theorem test_rule_311 :
  nextIs (step (holding ({ start with c := 0x80, a := 0x00 }) [(0xFF80, 0x5E)] [0xF2]))
      (fun t => t.a == 0x5E && t.c == 0x80 && t.pc == 0x0151 && t.ticks == 8) = true := by
  decide

/-- R312: vectors VL15. -/
theorem test_rule_312 :
  nextIs (step (holding ({ start with c := 0x81, a := 0x6F }) [] [0xE2]))
      (fun t => t.a == 0x6F && t.c == 0x81 && t.pc == 0x0151 && flatRead t 0xFF81 == 0x6F &&
        t.ticks == 8) = true := by
  decide

/-- R314: vectors VL17. -/
theorem test_rule_314 :
  nextIs (clockCpu (holding ({ start with a := 0x1F }) [] [0xE0, 0xFF]))
      (fun t => t.a == 0x1F && t.pc == 0x0152 && flatRead t 0xFFFF == 0x1F && t.ticks == 12) = true := by
  decide

/-- R315: vectors VL18. -/
theorem test_rule_315 :
  nextIs (step (holding ({ start with h := 0xC0, l := 0x00, a := 0x00 }) [(0xC000, 0x10)] [0x3A]))
      (fun t => t.a == 0x10 && t.h == 0xBF && t.l == 0xFF && t.pc == 0x0151 && t.ticks == 8) = true := by
  decide

/-- R316: vectors VL19. -/
theorem test_rule_316 :
  nextIs (step (holding ({ start with h := 0x00, l := 0x00, a := 0x33 }) [] [0x32]))
      (fun t => t.a == 0x33 && t.h == 0xFF && t.l == 0xFF && t.pc == 0x0151 && t.ticks == 8) = true := by
  decide

/-- R317: vectors VL20. -/
theorem test_rule_317 :
  nextIs (step (holding ({ start with h := 0xC0, l := 0xFF, a := 0x00 }) [(0xC0FF, 0x21)] [0x2A]))
      (fun t => t.a == 0x21 && t.h == 0xC1 && t.l == 0x00 && t.pc == 0x0151 && t.ticks == 8) = true := by
  decide

/-- R318: vectors VL21. -/
theorem test_rule_318 :
  nextIs (clockCpu (holding ({ start with h := 0xFF, l := 0xFF, a := 0x1F }) [] [0x22]))
      (fun t => t.a == 0x1F && t.h == 0x00 && t.l == 0x00 && t.pc == 0x0151 &&
        flatRead t 0xFFFF == 0x1F && t.ticks == 8) = true := by
  decide

/-- R320: vectors VL22, VL23. -/
theorem test_rule_320 :
  nextIs (step (holding start [] [0x31, 0xF0, 0xDF]))
      (fun t => t.sp == 0xDFF0 && t.pc == 0x0153 && t.ticks == 12) = true ∧
  nextIs (step (holding start [] [0x11, 0x34, 0x12]))
      (fun t => t.d == 0x12 && t.e == 0x34 && t.pc == 0x0153 && t.ticks == 12) = true := by
  decide

/-- R321: vectors VL24. -/
theorem test_rule_321 :
  nextIs (step (holding ({ start with sp := 0xBEEF }) [] [0x08, 0x00, 0xC2]))
      (fun t => t.sp == 0xBEEF && t.pc == 0x0153 && flatRead t 0xC200 == 0xEF &&
        flatRead t 0xC201 == 0xBE && t.ticks == 20) = true := by
  decide

/-- R322: vectors VL25. -/
theorem test_rule_322 :
  nextIs (step (holding ({ start with h := 0xC3, l := 0x00 }) [] [0xF9]))
      (fun t => t.h == 0xC3 && t.l == 0x00 && t.sp == 0xC300 && t.pc == 0x0151 &&
        t.ticks == 8) = true := by
  decide

/-- R330: vectors VL26, VL27. -/
theorem test_rule_330 :
  nextIs (step (holding ({ start with b := 0x12, c := 0x34, sp := 0xD000 }) [] [0xC5]))
      (fun t => t.b == 0x12 && t.c == 0x34 && t.sp == 0xCFFE && t.pc == 0x0151 &&
        flatRead t 0xCFFE == 0x34 && flatRead t 0xCFFF == 0x12 && t.ticks == 16) = true ∧
  nextIs (step (holding ({ start with a := 0x12, f := flagsOfByte 0xB0, sp := 0xD000 })
      [] [0xF5]))
      (fun t => t.a == 0x12 && t.f == flagsOfByte 0xB0 && t.sp == 0xCFFE && t.pc == 0x0151 &&
        flatRead t 0xCFFE == 0xB0 && flatRead t 0xCFFF == 0x12 && t.ticks == 16) = true := by
  decide

/-- R331: vectors VL28, VL29. -/
theorem test_rule_331 :
  nextIs (step (holding ({ start with sp := 0xCFFE, a := 0x00, f := flagsOfByte 0x00 })
      [(0xCFFE, 0xFF), (0xCFFF, 0x12)] [0xF1]))
      (fun t => t.a == 0x12 && t.f == flagsOfByte 0xF0 && t.sp == 0xD000 && t.pc == 0x0151 &&
        t.ticks == 12) = true ∧
  nextIs (clockCpu (holding ({ start with sp := 0xFFFE })
      [(0xFFFE, 0x34), (0xFFFF, 0x12)] [0xE1]))
      (fun t => t.h == 0x12 && t.l == 0x34 && t.sp == 0x0000 && t.pc == 0x0151 &&
        t.ticks == 12) = true := by
  decide

/-- R332: vectors VL30, VL31, VL32. -/
theorem test_rule_332 :
  nextIs (step (holding ({ start with sp := 0x00FF, h := 0x00, l := 0x00, f := flagsOfByte 0x00 })
      [] [0xF8, 0x01]))
      (fun t => t.f == flagsOfByte 0x30 && t.h == 0x01 && t.l == 0x00 && t.sp == 0x00FF &&
        t.pc == 0x0152 && t.ticks == 12) = true ∧
  nextIs (step (holding ({ start with sp := 0x0000, h := 0x00, l := 0x00, f := flagsOfByte 0x00 })
      [] [0xF8, 0xFF]))
      (fun t => t.f == flagsOfByte 0x00 && t.h == 0xFF && t.l == 0xFF && t.sp == 0x0000 &&
        t.pc == 0x0152 && t.ticks == 12) = true ∧
  nextIs (step (holding ({ start with sp := 0xD001, h := 0x00, l := 0x00, f := flagsOfByte 0xF0 })
      [] [0xF8, 0x0F]))
      (fun t => t.f == flagsOfByte 0x20 && t.h == 0xD0 && t.l == 0x10 && t.sp == 0xD001 &&
        t.pc == 0x0152 && t.ticks == 12) = true := by
  decide

/-- R400: vectors VA1, VA2, VA3. -/
theorem test_rule_400 :
  nextIs (step (holding ({ start with a := 0x3A, b := 0xC6, f := flagsOfByte 0x00 }) [] [0x80]))
      (fun t => t.a == 0x00 && t.f == flagsOfByte 0xB0 && t.b == 0xC6 && t.pc == 0x0151 &&
        t.ticks == 4) = true ∧
  nextIs (step (holding ({ start with a := 0x0F, b := 0x01, f := flagsOfByte 0x00 }) [] [0x80]))
      (fun t => t.a == 0x10 && t.f == flagsOfByte 0x20 && t.b == 0x01 && t.pc == 0x0151 &&
        t.ticks == 4) = true ∧
  nextIs (step (holding ({ start with a := 0x80, f := flagsOfByte 0x00 }) [] [0x87]))
      (fun t => t.a == 0x00 && t.f == flagsOfByte 0x90 && t.pc == 0x0151 && t.ticks == 4) = true := by
  decide

/-- R401: vectors VA4. -/
theorem test_rule_401 :
  nextIs (step (holding ({ start with a := 0xFF, h := 0xC0, l := 0x00, f := flagsOfByte 0x00 })
      [(0xC000, 0x01)] [0x86]))
      (fun t => t.a == 0x00 && t.f == flagsOfByte 0xB0 && t.h == 0xC0 && t.l == 0x00 &&
        t.pc == 0x0151 && t.ticks == 8) = true := by
  decide

/-- R402: vectors VA5. -/
theorem test_rule_402 :
  nextIs (step (holding ({ start with a := 0x00, f := flagsOfByte 0x70 }) [] [0xC6, 0x00]))
      (fun t => t.a == 0x00 && t.f == flagsOfByte 0x80 && t.pc == 0x0152 && t.ticks == 8) = true := by
  decide

/-- R403: vectors VA6, VA7. -/
theorem test_rule_403 :
  nextIs (step (holding ({ start with a := 0xE1, e := 0x0F, f := flagsOfByte 0x10 }) [] [0x8B]))
      (fun t => t.a == 0xF1 && t.f == flagsOfByte 0x20 && t.e == 0x0F && t.pc == 0x0151 &&
        t.ticks == 4) = true ∧
  nextIs (step (holding ({ start with a := 0xFF, b := 0x00, f := flagsOfByte 0x10 }) [] [0x88]))
      (fun t => t.a == 0x00 && t.f == flagsOfByte 0xB0 && t.b == 0x00 && t.pc == 0x0151 &&
        t.ticks == 4) = true := by
  decide

/-- R404: vectors VA8. -/
theorem test_rule_404 :
  nextIs (step (holding ({ start with a := 0x0E, h := 0xC0, l := 0x00, f := flagsOfByte 0x10 })
      [(0xC000, 0x01)] [0x8E]))
      (fun t => t.a == 0x10 && t.f == flagsOfByte 0x20 && t.h == 0xC0 && t.l == 0x00 &&
        t.pc == 0x0151 && t.ticks == 8) = true := by
  decide

/-- R405: vectors VA9. -/
theorem test_rule_405 :
  nextIs (step (holding ({ start with a := 0x00, f := flagsOfByte 0x10 }) [] [0xCE, 0xFF]))
      (fun t => t.a == 0x00 && t.f == flagsOfByte 0xB0 && t.pc == 0x0152 && t.ticks == 8) = true := by
  decide

/-- R406: vectors VA10, VA11. -/
theorem test_rule_406 :
  nextIs (step (holding ({ start with a := 0x3E, b := 0x3E, f := flagsOfByte 0x00 }) [] [0x90]))
      (fun t => t.a == 0x00 && t.f == flagsOfByte 0xC0 && t.b == 0x3E && t.pc == 0x0151 &&
        t.ticks == 4) = true ∧
  nextIs (step (holding ({ start with a := 0x42, f := flagsOfByte 0x10 }) [] [0x97]))
      (fun t => t.a == 0x00 && t.f == flagsOfByte 0xC0 && t.pc == 0x0151 && t.ticks == 4) = true := by
  decide

/-- R407: vectors VA12. -/
theorem test_rule_407 :
  nextIs (step (holding ({ start with a := 0x10, h := 0xC0, l := 0x00, f := flagsOfByte 0x00 })
      [(0xC000, 0x01)] [0x96]))
      (fun t => t.a == 0x0F && t.f == flagsOfByte 0x60 && t.h == 0xC0 && t.l == 0x00 &&
        t.pc == 0x0151 && t.ticks == 8) = true := by
  decide

/-- R408: vectors VA13. -/
theorem test_rule_408 :
  nextIs (step (holding ({ start with a := 0x3E, f := flagsOfByte 0x00 }) [] [0xD6, 0x40]))
      (fun t => t.a == 0xFE && t.f == flagsOfByte 0x50 && t.pc == 0x0152 && t.ticks == 8) = true := by
  decide

/-- R409: vectors VA14, VA15. -/
theorem test_rule_409 :
  nextIs (step (holding ({ start with a := 0x3B, b := 0x2A, f := flagsOfByte 0x10 }) [] [0x98]))
      (fun t => t.a == 0x10 && t.f == flagsOfByte 0x40 && t.b == 0x2A && t.pc == 0x0151 &&
        t.ticks == 4) = true ∧
  nextIs (step (holding ({ start with a := 0x00, b := 0xFF, f := flagsOfByte 0x10 }) [] [0x98]))
      (fun t => t.a == 0x00 && t.f == flagsOfByte 0xF0 && t.b == 0xFF && t.pc == 0x0151 &&
        t.ticks == 4) = true := by
  decide

/-- R410: vectors VA16. -/
theorem test_rule_410 :
  nextIs (step (holding ({ start with a := 0x3B, h := 0xC0, l := 0x00, f := flagsOfByte 0x10 })
      [(0xC000, 0x4F)] [0x9E]))
      (fun t => t.a == 0xEB && t.f == flagsOfByte 0x70 && t.h == 0xC0 && t.l == 0x00 &&
        t.pc == 0x0151 && t.ticks == 8) = true := by
  decide

/-- R411: vectors VA17. -/
theorem test_rule_411 :
  nextIs (step (holding ({ start with a := 0x10, f := flagsOfByte 0x10 }) [] [0xDE, 0x00]))
      (fun t => t.a == 0x0F && t.f == flagsOfByte 0x60 && t.pc == 0x0152 && t.ticks == 8) = true := by
  decide

/-- R412: vectors VA18. -/
theorem test_rule_412 :
  nextIs (step (holding ({ start with a := 0x5A, b := 0x3F, f := flagsOfByte 0x00 }) [] [0xA0]))
      (fun t => t.a == 0x1A && t.f == flagsOfByte 0x20 && t.b == 0x3F && t.pc == 0x0151 &&
        t.ticks == 4) = true := by
  decide

/-- R413: vectors VA19. -/
theorem test_rule_413 :
  nextIs (step (holding ({ start with a := 0x5A, h := 0xC0, l := 0x00, f := flagsOfByte 0x00 })
      [(0xC000, 0xA5)] [0xA6]))
      (fun t => t.a == 0x00 && t.f == flagsOfByte 0xA0 && t.h == 0xC0 && t.l == 0x00 &&
        t.pc == 0x0151 && t.ticks == 8) = true := by
  decide

/-- R414: vectors VA20. -/
theorem test_rule_414 :
  nextIs (step (holding ({ start with a := 0x5A, f := flagsOfByte 0x00 }) [] [0xE6, 0x38]))
      (fun t => t.a == 0x18 && t.f == flagsOfByte 0x20 && t.pc == 0x0152 && t.ticks == 8) = true := by
  decide

/-- R415: vectors VA21. -/
theorem test_rule_415 :
  nextIs (step (holding ({ start with a := 0xFF, f := flagsOfByte 0x70 }) [] [0xAF]))
      (fun t => t.a == 0x00 && t.f == flagsOfByte 0x80 && t.pc == 0x0151 && t.ticks == 4) = true := by
  decide

/-- R416: vectors VA22. -/
theorem test_rule_416 :
  nextIs (step (holding ({ start with a := 0xFF, h := 0xC0, l := 0x00, f := flagsOfByte 0x00 })
      [(0xC000, 0x8A)] [0xAE]))
      (fun t => t.a == 0x75 && t.f == flagsOfByte 0x00 && t.h == 0xC0 && t.l == 0x00 &&
        t.pc == 0x0151 && t.ticks == 8) = true := by
  decide

/-- R417: vectors VA23. -/
theorem test_rule_417 :
  nextIs (step (holding ({ start with a := 0xFF, f := flagsOfByte 0x00 }) [] [0xEE, 0x0F]))
      (fun t => t.a == 0xF0 && t.f == flagsOfByte 0x00 && t.pc == 0x0152 && t.ticks == 8) = true := by
  decide

/-- R418: vectors VA24. -/
theorem test_rule_418 :
  nextIs (step (holding ({ start with a := 0x00, b := 0x00, f := flagsOfByte 0x70 }) [] [0xB0]))
      (fun t => t.a == 0x00 && t.f == flagsOfByte 0x80 && t.b == 0x00 && t.pc == 0x0151 &&
        t.ticks == 4) = true := by
  decide

/-- R419: vectors VA25. -/
theorem test_rule_419 :
  nextIs (step (holding ({ start with a := 0x5A, h := 0xC0, l := 0x00, f := flagsOfByte 0x00 })
      [(0xC000, 0x0F)] [0xB6]))
      (fun t => t.a == 0x5F && t.f == flagsOfByte 0x00 && t.h == 0xC0 && t.l == 0x00 &&
        t.pc == 0x0151 && t.ticks == 8) = true := by
  decide

/-- R420: vectors VA26. -/
theorem test_rule_420 :
  nextIs (step (holding ({ start with a := 0x5A, f := flagsOfByte 0x00 }) [] [0xF6, 0x03]))
      (fun t => t.a == 0x5B && t.f == flagsOfByte 0x00 && t.pc == 0x0152 && t.ticks == 8) = true := by
  decide

/-- R421: vectors VA27, VA28. -/
theorem test_rule_421 :
  nextIs (step (holding ({ start with a := 0x3C, b := 0x2F, f := flagsOfByte 0x00 }) [] [0xB8]))
      (fun t => t.a == 0x3C && t.f == flagsOfByte 0x60 && t.b == 0x2F && t.pc == 0x0151 &&
        t.ticks == 4) = true ∧
  nextIs (step (holding ({ start with a := 0x3C, f := flagsOfByte 0x00 }) [] [0xBF]))
      (fun t => t.a == 0x3C && t.f == flagsOfByte 0xC0 && t.pc == 0x0151 && t.ticks == 4) = true := by
  decide

/-- R422: vectors VA29. -/
theorem test_rule_422 :
  nextIs (step (holding ({ start with a := 0x3C, h := 0xC0, l := 0x00, f := flagsOfByte 0x00 })
      [(0xC000, 0x40)] [0xBE]))
      (fun t => t.a == 0x3C && t.f == flagsOfByte 0x50 && t.h == 0xC0 && t.l == 0x00 &&
        t.pc == 0x0151 && t.ticks == 8) = true := by
  decide

/-- R423: vectors VA30. -/
theorem test_rule_423 :
  nextIs (step (holding ({ start with a := 0x3C, f := flagsOfByte 0x00 }) [] [0xFE, 0x3C]))
      (fun t => t.a == 0x3C && t.f == flagsOfByte 0xC0 && t.pc == 0x0152 && t.ticks == 8) = true := by
  decide

/-- R424: vectors VA31, VA32. -/
theorem test_rule_424 :
  nextIs (step (holding ({ start with a := 0xFF, f := flagsOfByte 0x10 }) [] [0x3C]))
      (fun t => t.a == 0x00 && t.f == flagsOfByte 0xB0 && t.pc == 0x0151 && t.ticks == 4) = true ∧
  nextIs (step (holding ({ start with b := 0x0F, f := flagsOfByte 0x00 }) [] [0x04]))
      (fun t => t.f == flagsOfByte 0x20 && t.b == 0x10 && t.pc == 0x0151 && t.ticks == 4) = true := by
  decide

/-- R425: vectors VA33. -/
theorem test_rule_425 :
  nextIs (step (holding ({ start with h := 0xC0, l := 0x00, f := flagsOfByte 0x00 })
      [(0xC000, 0x50)] [0x34]))
      (fun t => t.f == flagsOfByte 0x00 && t.h == 0xC0 && t.l == 0x00 && t.pc == 0x0151 &&
        flatRead t 0xC000 == 0x51 && t.ticks == 12) = true := by
  decide

/-- R426: vectors VA34, VA35. -/
theorem test_rule_426 :
  nextIs (step (holding ({ start with a := 0x01, f := flagsOfByte 0x00 }) [] [0x3D]))
      (fun t => t.a == 0x00 && t.f == flagsOfByte 0xC0 && t.pc == 0x0151 && t.ticks == 4) = true ∧
  nextIs (step (holding ({ start with c := 0x00, f := flagsOfByte 0x10 }) [] [0x0D]))
      (fun t => t.f == flagsOfByte 0x70 && t.c == 0xFF && t.pc == 0x0151 && t.ticks == 4) = true := by
  decide

/-- R427: vectors VA36. -/
theorem test_rule_427 :
  nextIs (step (holding ({ start with h := 0xC0, l := 0x00, f := flagsOfByte 0x00 })
      [(0xC000, 0x10)] [0x35]))
      (fun t => t.f == flagsOfByte 0x60 && t.h == 0xC0 && t.l == 0x00 && t.pc == 0x0151 &&
        flatRead t 0xC000 == 0x0F && t.ticks == 12) = true := by
  decide

/-- R428: vectors VA37, VA38, VA39, VA40, VA41, VA42. -/
theorem test_rule_428 :
  nextIs (step (holding ({ start with a := 0x7D, f := flagsOfByte 0x00 }) [] [0x27]))
      (fun t => t.a == 0x83 && t.f == flagsOfByte 0x00 && t.pc == 0x0151 && t.ticks == 4) = true ∧
  nextIs (step (holding ({ start with a := 0x4B, f := flagsOfByte 0x60 }) [] [0x27]))
      (fun t => t.a == 0x45 && t.f == flagsOfByte 0x40 && t.pc == 0x0151 && t.ticks == 4) = true ∧
  nextIs (step (holding ({ start with a := 0x9A, f := flagsOfByte 0x00 }) [] [0x27]))
      (fun t => t.a == 0x00 && t.f == flagsOfByte 0x90 && t.pc == 0x0151 && t.ticks == 4) = true ∧
  nextIs (step (holding ({ start with a := 0x00, f := flagsOfByte 0xB0 }) [] [0x27]))
      (fun t => t.a == 0x66 && t.f == flagsOfByte 0x10 && t.pc == 0x0151 && t.ticks == 4) = true ∧
  nextIs (step (holding ({ start with a := 0xF0, f := flagsOfByte 0x50 }) [] [0x27]))
      (fun t => t.a == 0x90 && t.f == flagsOfByte 0x50 && t.pc == 0x0151 && t.ticks == 4) = true ∧
  nextIs (step (holding ({ start with a := 0x00, f := flagsOfByte 0x00 }) [] [0x27]))
      (fun t => t.a == 0x00 && t.f == flagsOfByte 0x80 && t.pc == 0x0151 && t.ticks == 4) = true := by
  decide

/-- R429: vectors VA43. -/
theorem test_rule_429 :
  nextIs (step (holding ({ start with a := 0x35, f := flagsOfByte 0x80 }) [] [0x2F]))
      (fun t => t.a == 0xCA && t.f == flagsOfByte 0xE0 && t.pc == 0x0151 && t.ticks == 4) = true := by
  decide

/-- R430: vectors VA44. -/
theorem test_rule_430 :
  nextIs (step (holding ({ start with f := flagsOfByte 0xE0 }) [] [0x37]))
      (fun t => t.f == flagsOfByte 0x90 && t.pc == 0x0151 && t.ticks == 4) = true := by
  decide

/-- R431: vectors VA45, VA46. -/
theorem test_rule_431 :
  nextIs (step (holding ({ start with f := flagsOfByte 0x10 }) [] [0x3F]))
      (fun t => t.f == flagsOfByte 0x00 && t.pc == 0x0151 && t.ticks == 4) = true ∧
  nextIs (step (holding ({ start with f := flagsOfByte 0x60 }) [] [0x3F]))
      (fun t => t.f == flagsOfByte 0x10 && t.pc == 0x0151 && t.ticks == 4) = true := by
  decide

/-- R500: vectors VW1, VW2, VW3, VW4, VW5. -/
theorem test_rule_500 :
  nextIs (step (holding ({ start with h := 0x8A, l := 0x23, f := flagsOfByte 0x00 }) [] [0x29]))
      (fun t => t.f == flagsOfByte 0x30 && t.h == 0x14 && t.l == 0x46 && t.pc == 0x0151 &&
        t.ticks == 8) = true ∧
  nextIs (step (holding ({ start with h := 0x8A, l := 0x23, f := flagsOfByte 0x80 }) [] [0x29]))
      (fun t => t.f == flagsOfByte 0xB0 && t.h == 0x14 && t.l == 0x46 && t.pc == 0x0151 &&
        t.ticks == 8) = true ∧
  nextIs (step (holding ({ start with h := 0x0F, l := 0xFF, b := 0x00, c := 0x01, f := flagsOfByte 0x40 })
      [] [0x09]))
      (fun t => t.f == flagsOfByte 0x20 && t.b == 0x00 && t.c == 0x01 && t.h == 0x10 &&
        t.l == 0x00 && t.pc == 0x0151 && t.ticks == 8) = true ∧
  nextIs (step (holding ({ start with h := 0xFF, l := 0xFF, d := 0x00, e := 0x01, f := flagsOfByte 0x00 })
      [] [0x19]))
      (fun t => t.f == flagsOfByte 0x30 && t.d == 0x00 && t.e == 0x01 && t.h == 0x00 &&
        t.l == 0x00 && t.pc == 0x0151 && t.ticks == 8) = true ∧
  nextIs (step (holding ({ start with h := 0x12, l := 0x34, sp := 0x0100, f := flagsOfByte 0x00 })
      [] [0x39]))
      (fun t => t.f == flagsOfByte 0x00 && t.h == 0x13 && t.l == 0x34 && t.sp == 0x0100 &&
        t.pc == 0x0151 && t.ticks == 8) = true := by
  decide

/-- R501: vectors VW6, VW7. -/
theorem test_rule_501 :
  nextIs (step (holding ({ start with b := 0xFF, c := 0xFF, f := flagsOfByte 0xF0 }) [] [0x03]))
      (fun t => t.f == flagsOfByte 0xF0 && t.b == 0x00 && t.c == 0x00 && t.pc == 0x0151 &&
        t.ticks == 8) = true ∧
  nextIs (step (holding ({ start with sp := 0xFFFF, f := flagsOfByte 0x00 }) [] [0x33]))
      (fun t => t.f == flagsOfByte 0x00 && t.sp == 0x0000 && t.pc == 0x0151 && t.ticks == 8) = true := by
  decide

/-- R502: vectors VW8, VW9. -/
theorem test_rule_502 :
  nextIs (step (holding ({ start with d := 0x00, e := 0x00, f := flagsOfByte 0x00 }) [] [0x1B]))
      (fun t => t.f == flagsOfByte 0x00 && t.d == 0xFF && t.e == 0xFF && t.pc == 0x0151 &&
        t.ticks == 8) = true ∧
  nextIs (step (holding ({ start with h := 0x01, l := 0x00, f := flagsOfByte 0x80 }) [] [0x2B]))
      (fun t => t.f == flagsOfByte 0x80 && t.h == 0x00 && t.l == 0xFF && t.pc == 0x0151 &&
        t.ticks == 8) = true := by
  decide

/-- R503: vectors VW10, VW11, VW12, VW13. -/
theorem test_rule_503 :
  nextIs (step (holding ({ start with sp := 0x00FF, f := flagsOfByte 0xC0 }) [] [0xE8, 0x01]))
      (fun t => t.f == flagsOfByte 0x30 && t.sp == 0x0100 && t.pc == 0x0152 && t.ticks == 16) = true ∧
  nextIs (step (holding ({ start with sp := 0xD000, f := flagsOfByte 0x00 }) [] [0xE8, 0xFE]))
      (fun t => t.f == flagsOfByte 0x00 && t.sp == 0xCFFE && t.pc == 0x0152 && t.ticks == 16) = true ∧
  nextIs (step (holding ({ start with sp := 0x0001, f := flagsOfByte 0x00 }) [] [0xE8, 0xFF]))
      (fun t => t.f == flagsOfByte 0x30 && t.sp == 0x0000 && t.pc == 0x0152 && t.ticks == 16) = true ∧
  nextIs (step (holding ({ start with sp := 0xFFF8, f := flagsOfByte 0x00 }) [] [0xE8, 0x08]))
      (fun t => t.f == flagsOfByte 0x30 && t.sp == 0x0000 && t.pc == 0x0152 && t.ticks == 16) = true := by
  decide

/-- R600: vectors VR1, VR2. -/
theorem test_rule_600 :
  nextIs (step (holding ({ start with a := 0x85, f := flagsOfByte 0x00 }) [] [0x07]))
      (fun t => t.a == 0x0B && t.f == flagsOfByte 0x10 && t.pc == 0x0151 && t.ticks == 4) = true ∧
  nextIs (step (holding ({ start with a := 0x00, f := flagsOfByte 0x80 }) [] [0x07]))
      (fun t => t.a == 0x00 && t.f == flagsOfByte 0x00 && t.pc == 0x0151 && t.ticks == 4) = true := by
  decide

/-- R601: vectors VR3. -/
theorem test_rule_601 :
  nextIs (step (holding ({ start with a := 0x01, f := flagsOfByte 0x00 }) [] [0x0F]))
      (fun t => t.a == 0x80 && t.f == flagsOfByte 0x10 && t.pc == 0x0151 && t.ticks == 4) = true := by
  decide

/-- R602: vectors VR4, VR5. -/
theorem test_rule_602 :
  nextIs (step (holding ({ start with a := 0x80, f := flagsOfByte 0x00 }) [] [0x17]))
      (fun t => t.a == 0x00 && t.f == flagsOfByte 0x10 && t.pc == 0x0151 && t.ticks == 4) = true ∧
  nextIs (step (holding ({ start with a := 0x95, f := flagsOfByte 0x10 }) [] [0x17]))
      (fun t => t.a == 0x2B && t.f == flagsOfByte 0x10 && t.pc == 0x0151 && t.ticks == 4) = true := by
  decide

/-- R603: vectors VR6. -/
theorem test_rule_603 :
  nextIs (step (holding ({ start with a := 0x01, f := flagsOfByte 0x10 }) [] [0x1F]))
      (fun t => t.a == 0x80 && t.f == flagsOfByte 0x10 && t.pc == 0x0151 && t.ticks == 4) = true := by
  decide

/-- R604: vectors VR7, VR8. -/
theorem test_rule_604 :
  nextIs (step (holding ({ start with b := 0x85, f := flagsOfByte 0x00 }) [] [0xCB, 0x00]))
      (fun t => t.f == flagsOfByte 0x10 && t.b == 0x0B && t.pc == 0x0152 && t.ticks == 8) = true ∧
  nextIs (step (holding ({ start with c := 0x00, f := flagsOfByte 0x10 }) [] [0xCB, 0x01]))
      (fun t => t.f == flagsOfByte 0x80 && t.c == 0x00 && t.pc == 0x0152 && t.ticks == 8) = true := by
  decide

/-- R605: vectors VR9. -/
theorem test_rule_605 :
  nextIs (step (holding ({ start with h := 0xC0, l := 0x00, f := flagsOfByte 0x00 })
      [(0xC000, 0x80)] [0xCB, 0x06]))
      (fun t => t.f == flagsOfByte 0x10 && t.h == 0xC0 && t.l == 0x00 && t.pc == 0x0152 &&
        flatRead t 0xC000 == 0x01 && t.ticks == 16) = true := by
  decide

/-- R606: vectors VR10. -/
theorem test_rule_606 :
  nextIs (step (holding ({ start with d := 0x01, f := flagsOfByte 0x00 }) [] [0xCB, 0x0A]))
      (fun t => t.f == flagsOfByte 0x10 && t.d == 0x80 && t.pc == 0x0152 && t.ticks == 8) = true := by
  decide

/-- R607: vectors VR11. -/
theorem test_rule_607 :
  nextIs (step (holding ({ start with h := 0xC0, l := 0x00, f := flagsOfByte 0x00 })
      [(0xC000, 0x02)] [0xCB, 0x0E]))
      (fun t => t.f == flagsOfByte 0x00 && t.h == 0xC0 && t.l == 0x00 && t.pc == 0x0152 &&
        flatRead t 0xC000 == 0x01 && t.ticks == 16) = true := by
  decide

/-- R608: vectors VR12. -/
theorem test_rule_608 :
  nextIs (step (holding ({ start with e := 0x80, f := flagsOfByte 0x00 }) [] [0xCB, 0x13]))
      (fun t => t.f == flagsOfByte 0x90 && t.e == 0x00 && t.pc == 0x0152 && t.ticks == 8) = true := by
  decide

/-- R609: vectors VR13. -/
theorem test_rule_609 :
  nextIs (step (holding ({ start with h := 0xC0, l := 0x00, f := flagsOfByte 0x10 })
      [(0xC000, 0x11)] [0xCB, 0x16]))
      (fun t => t.f == flagsOfByte 0x00 && t.h == 0xC0 && t.l == 0x00 && t.pc == 0x0152 &&
        flatRead t 0xC000 == 0x23 && t.ticks == 16) = true := by
  decide

/-- R610: vectors VR14. -/
theorem test_rule_610 :
  nextIs (step (holding ({ start with h := 0x01, f := flagsOfByte 0x00 }) [] [0xCB, 0x1C]))
      (fun t => t.f == flagsOfByte 0x90 && t.h == 0x00 && t.pc == 0x0152 && t.ticks == 8) = true := by
  decide

/-- R611: vectors VR15. -/
theorem test_rule_611 :
  nextIs (step (holding ({ start with h := 0xC0, l := 0x00, f := flagsOfByte 0x10 })
      [(0xC000, 0x8A)] [0xCB, 0x1E]))
      (fun t => t.f == flagsOfByte 0x00 && t.h == 0xC0 && t.l == 0x00 && t.pc == 0x0152 &&
        flatRead t 0xC000 == 0xC5 && t.ticks == 16) = true := by
  decide

/-- R612: vectors VR16, VR17. -/
theorem test_rule_612 :
  nextIs (step (holding ({ start with d := 0x80, f := flagsOfByte 0x00 }) [] [0xCB, 0x22]))
      (fun t => t.f == flagsOfByte 0x90 && t.d == 0x00 && t.pc == 0x0152 && t.ticks == 8) = true ∧
  nextIs (step (holding ({ start with a := 0x41, f := flagsOfByte 0x10 }) [] [0xCB, 0x27]))
      (fun t => t.a == 0x82 && t.f == flagsOfByte 0x00 && t.pc == 0x0152 && t.ticks == 8) = true := by
  decide

/-- R613: vectors VR18. -/
theorem test_rule_613 :
  nextIs (step (holding ({ start with h := 0xC0, l := 0x00, f := flagsOfByte 0x00 })
      [(0xC000, 0xFF)] [0xCB, 0x26]))
      (fun t => t.f == flagsOfByte 0x10 && t.h == 0xC0 && t.l == 0x00 && t.pc == 0x0152 &&
        flatRead t 0xC000 == 0xFE && t.ticks == 16) = true := by
  decide

/-- R614: vectors VR19, VR20. -/
theorem test_rule_614 :
  nextIs (step (holding ({ start with d := 0x8A, f := flagsOfByte 0x00 }) [] [0xCB, 0x2A]))
      (fun t => t.f == flagsOfByte 0x00 && t.d == 0xC5 && t.pc == 0x0152 && t.ticks == 8) = true ∧
  nextIs (step (holding ({ start with b := 0x01, f := flagsOfByte 0x00 }) [] [0xCB, 0x28]))
      (fun t => t.f == flagsOfByte 0x90 && t.b == 0x00 && t.pc == 0x0152 && t.ticks == 8) = true := by
  decide

/-- R615: vectors VR21. -/
theorem test_rule_615 :
  nextIs (step (holding ({ start with h := 0xC0, l := 0x00, f := flagsOfByte 0x00 })
      [(0xC000, 0x81)] [0xCB, 0x2E]))
      (fun t => t.f == flagsOfByte 0x10 && t.h == 0xC0 && t.l == 0x00 && t.pc == 0x0152 &&
        flatRead t 0xC000 == 0xC0 && t.ticks == 16) = true := by
  decide

/-- R616: vectors VR22, VR23. -/
theorem test_rule_616 :
  nextIs (step (holding ({ start with a := 0xF1, f := flagsOfByte 0x70 }) [] [0xCB, 0x37]))
      (fun t => t.a == 0x1F && t.f == flagsOfByte 0x00 && t.pc == 0x0152 && t.ticks == 8) = true ∧
  nextIs (step (holding ({ start with b := 0x00, f := flagsOfByte 0x10 }) [] [0xCB, 0x30]))
      (fun t => t.f == flagsOfByte 0x80 && t.b == 0x00 && t.pc == 0x0152 && t.ticks == 8) = true := by
  decide

/-- R617: vectors VR24. -/
theorem test_rule_617 :
  nextIs (step (holding ({ start with h := 0xC0, l := 0x00, f := flagsOfByte 0x00 })
      [(0xC000, 0x12)] [0xCB, 0x36]))
      (fun t => t.f == flagsOfByte 0x00 && t.h == 0xC0 && t.l == 0x00 && t.pc == 0x0152 &&
        flatRead t 0xC000 == 0x21 && t.ticks == 16) = true := by
  decide

/-- R618: vectors VR25, VR26. -/
theorem test_rule_618 :
  nextIs (step (holding ({ start with a := 0x01, f := flagsOfByte 0x00 }) [] [0xCB, 0x3F]))
      (fun t => t.a == 0x00 && t.f == flagsOfByte 0x90 && t.pc == 0x0152 && t.ticks == 8) = true ∧
  nextIs (step (holding ({ start with b := 0x8F, f := flagsOfByte 0x00 }) [] [0xCB, 0x38]))
      (fun t => t.f == flagsOfByte 0x10 && t.b == 0x47 && t.pc == 0x0152 && t.ticks == 8) = true := by
  decide

/-- R619: vectors VR27. -/
theorem test_rule_619 :
  nextIs (step (holding ({ start with h := 0xC0, l := 0x00, f := flagsOfByte 0x00 })
      [(0xC000, 0xFF)] [0xCB, 0x3E]))
      (fun t => t.f == flagsOfByte 0x10 && t.h == 0xC0 && t.l == 0x00 && t.pc == 0x0152 &&
        flatRead t 0xC000 == 0x7F && t.ticks == 16) = true := by
  decide

/-- R620: vectors VR28, VR29. -/
theorem test_rule_620 :
  nextIs (step (holding ({ start with h := 0x7F, f := flagsOfByte 0x10 }) [] [0xCB, 0x7C]))
      (fun t => t.f == flagsOfByte 0xB0 && t.h == 0x7F && t.pc == 0x0152 && t.ticks == 8) = true ∧
  nextIs (step (holding ({ start with a := 0x01, f := flagsOfByte 0x40 }) [] [0xCB, 0x47]))
      (fun t => t.a == 0x01 && t.f == flagsOfByte 0x20 && t.pc == 0x0152 && t.ticks == 8) = true := by
  decide

/-- R621: vectors VR30. -/
theorem test_rule_621 :
  nextIs (step (holding ({ start with h := 0xC0, l := 0x00, f := flagsOfByte 0x00 })
      [(0xC000, 0xF7)] [0xCB, 0x5E]))
      (fun t => t.f == flagsOfByte 0xA0 && t.h == 0xC0 && t.l == 0x00 && t.pc == 0x0152 &&
        t.ticks == 12) = true := by
  decide

/-- R622: vectors VR31. -/
theorem test_rule_622 :
  nextIs (step (holding ({ start with a := 0xFF, f := flagsOfByte 0x00 }) [] [0xCB, 0x87]))
      (fun t => t.a == 0xFE && t.f == flagsOfByte 0x00 && t.pc == 0x0152 && t.ticks == 8) = true := by
  decide

/-- R623: vectors VR32. -/
theorem test_rule_623 :
  nextIs (step (holding ({ start with h := 0xC0, l := 0x00, f := flagsOfByte 0x00 })
      [(0xC000, 0xFF)] [0xCB, 0xBE]))
      (fun t => t.f == flagsOfByte 0x00 && t.h == 0xC0 && t.l == 0x00 && t.pc == 0x0152 &&
        flatRead t 0xC000 == 0x7F && t.ticks == 16) = true := by
  decide

/-- R624: vectors VR33. -/
theorem test_rule_624 :
  nextIs (step (holding ({ start with b := 0x00, f := flagsOfByte 0x00 }) [] [0xCB, 0xF8]))
      (fun t => t.f == flagsOfByte 0x00 && t.b == 0x80 && t.pc == 0x0152 && t.ticks == 8) = true := by
  decide

/-- R625: vectors VR34. -/
theorem test_rule_625 :
  nextIs (step (holding ({ start with h := 0xC0, l := 0x00, f := flagsOfByte 0x00 })
      [(0xC000, 0x00)] [0xCB, 0xC6]))
      (fun t => t.f == flagsOfByte 0x00 && t.h == 0xC0 && t.l == 0x00 && t.pc == 0x0152 &&
        flatRead t 0xC000 == 0x01 && t.ticks == 16) = true := by
  decide

/-- R702: vectors VC1. -/
theorem test_rule_702 :
  nextIs (step (holding start [] [0xC3, 0x00, 0x02]))
      (fun t => t.pc == 0x0200 && t.ticks == 16) = true := by
  decide

/-- R703: vectors VC2, VC3, VC4. -/
theorem test_rule_703 :
  nextIs (step (holding ({ start with f := flagsOfByte 0x00 }) [] [0xC2, 0x00, 0x02]))
      (fun t => t.f == flagsOfByte 0x00 && t.pc == 0x0200 && t.ticks == 16) = true ∧
  nextIs (step (holding ({ start with f := flagsOfByte 0x80 }) [] [0xC2, 0x00, 0x02]))
      (fun t => t.f == flagsOfByte 0x80 && t.pc == 0x0153 && t.ticks == 12) = true ∧
  nextIs (step (holding ({ start with f := flagsOfByte 0x10 }) [] [0xDA, 0x00, 0x02]))
      (fun t => t.f == flagsOfByte 0x10 && t.pc == 0x0200 && t.ticks == 16) = true := by
  decide

/-- R704: vectors VC5. -/
theorem test_rule_704 :
  nextIs (step (holding ({ start with h := 0x12, l := 0x34 }) [] [0xE9]))
      (fun t => t.h == 0x12 && t.l == 0x34 && t.pc == 0x1234 && t.ticks == 4) = true := by
  decide

/-- R705: vectors VC6, VC7, VC8. -/
theorem test_rule_705 :
  nextIs (step (holding start [] [0x18, 0xFE]))
      (fun t => t.pc == 0x0150 && t.ticks == 12) = true ∧
  nextIs (step (holding start [] [0x18, 0x7F]))
      (fun t => t.pc == 0x01D1 && t.ticks == 12) = true ∧
  nextIs (step (holding start [] [0x18, 0x80]))
      (fun t => t.pc == 0x00D2 && t.ticks == 12) = true := by
  decide

/-- R706: vectors VC9, VC10, VC11. -/
theorem test_rule_706 :
  nextIs (step (holding ({ start with f := flagsOfByte 0x80 }) [] [0x28, 0x05]))
      (fun t => t.f == flagsOfByte 0x80 && t.pc == 0x0157 && t.ticks == 12) = true ∧
  nextIs (step (holding ({ start with f := flagsOfByte 0x00 }) [] [0x28, 0x05]))
      (fun t => t.f == flagsOfByte 0x00 && t.pc == 0x0152 && t.ticks == 8) = true ∧
  nextIs (step (holding ({ start with f := flagsOfByte 0x00 }) [] [0x30, 0xFD]))
      (fun t => t.f == flagsOfByte 0x00 && t.pc == 0x014F && t.ticks == 12) = true := by
  decide

/-- R707: vectors VC12. -/
theorem test_rule_707 :
  nextIs (step (holding ({ start with sp := 0xD000 }) [] [0xCD, 0x34, 0x12]))
      (fun t => t.sp == 0xCFFE && t.pc == 0x1234 && flatRead t 0xCFFE == 0x53 &&
        flatRead t 0xCFFF == 0x01 && t.ticks == 24) = true := by
  decide

/-- R708: vectors VC13, VC14. -/
theorem test_rule_708 :
  nextIs (step (holding ({ start with sp := 0xD000, f := flagsOfByte 0x00 })
      [] [0xD4, 0x34, 0x12]))
      (fun t => t.f == flagsOfByte 0x00 && t.sp == 0xCFFE && t.pc == 0x1234 &&
        flatRead t 0xCFFE == 0x53 && flatRead t 0xCFFF == 0x01 && t.ticks == 24) = true ∧
  nextIs (step (holding ({ start with sp := 0xD000, f := flagsOfByte 0x10 })
      [] [0xD4, 0x34, 0x12]))
      (fun t => t.f == flagsOfByte 0x10 && t.sp == 0xD000 && t.pc == 0x0153 && t.ticks == 12) = true := by
  decide

/-- R709: vectors VC15. -/
theorem test_rule_709 :
  nextIs (step (holding ({ start with sp := 0xCFFE }) [(0xCFFE, 0x53), (0xCFFF, 0x01)] [0xC9]))
      (fun t => t.sp == 0xD000 && t.pc == 0x0153 && t.ticks == 16) = true := by
  decide

/-- R710: vectors VC16, VC17. -/
theorem test_rule_710 :
  nextIs (step (holding ({ start with sp := 0xCFFE, f := flagsOfByte 0x80 })
      [(0xCFFE, 0x53), (0xCFFF, 0x01)] [0xC8]))
      (fun t => t.f == flagsOfByte 0x80 && t.sp == 0xD000 && t.pc == 0x0153 && t.ticks == 20) = true ∧
  nextIs (step (holding ({ start with sp := 0xCFFE, f := flagsOfByte 0x00 })
      [(0xCFFE, 0x53), (0xCFFF, 0x01)] [0xC8]))
      (fun t => t.f == flagsOfByte 0x00 && t.sp == 0xCFFE && t.pc == 0x0151 && t.ticks == 8) = true := by
  decide

/-- R711: vectors VC18. -/
theorem test_rule_711 :
  nextIs (step (holding ({ start with sp := 0xCFFE, ime := false })
      [(0xCFFE, 0x53), (0xCFFF, 0x01)] [0xD9]))
      (fun t => t.sp == 0xD000 && t.pc == 0x0153 && t.ime == true && t.ticks == 16) = true := by
  decide

/-- R712: vectors VC19, VC20. -/
theorem test_rule_712 :
  nextIs (step (holding ({ start with sp := 0xD000 }) [] [0xFF]))
      (fun t => t.sp == 0xCFFE && t.pc == 0x0038 && flatRead t 0xCFFE == 0x51 &&
        flatRead t 0xCFFF == 0x01 && t.ticks == 16) = true ∧
  nextIs (clockCpu (holding ({ start with sp := 0x0001 }) [] [0xC7]))
      (fun t => t.sp == 0xFFFF && t.pc == 0x0000 && flatRead t 0xFFFF == 0x51 &&
        t.ticks == 16) = true := by
  decide

/-! ## CPU control, interrupts and faults -/

/-- VS1, VS2 and VS5. -/
theorem test_rule_800_801_803 :
    nextIs (step (holding start [] [0x00])) (fun t => t.pc == 0x0151 && t.ticks == 4) = true ∧
    nextIs (step (holding start [] [0x76]))
      (fun t => t.pc == 0x0150 && t.halted && t.ticks == 4) = true ∧
    nextIs (clockCpu (holding start [] [0x10, 0x00]))
      (fun t => t.pc == 0x0152 && t.stopped && t.ticks == 4) = true := by
  decide

/-- VS3, with IF's bit already there: HALT sets the halt bug, and INC B runs twice. -/
theorem test_rule_801_806 :
    exec .halt { start with ie := 0x04, iflag := 0x04 } =
      .next { start with ie := 0x04, iflag := 0x04, haltBug := true } ∧
    nextIs (clockCpu (holding { start with haltBug := true, b := 0x00 } [] [0x04]))
      (fun t => t.b == 0x01 && t.pc == 0x0150 && !t.haltBug && t.ticks == 4) = true ∧
    nextIs (clockCpu (holding { start with b := 0x01 } [] [0x04]))
      (fun t => t.b == 0x02 && t.pc == 0x0151) = true :=
  ⟨rfl, by decide, by decide⟩

/-- VS7 and VS8: DI and EI, and the decision after each. -/
theorem test_rule_804_805 :
    nextIs (thenHandle (exec .di { start with ime := true, ie := 0x01, iflag := 0x01 }))
      (fun t => !t.ime && t.pc == 0x0150) = true ∧
    nextIs (thenHandle (exec .ei { start with ie := 0x01, iflag := 0x01 }))
      (fun t => t.ime && !t.eiPending && t.pc == 0x0150) = true := by
  decide

/-- VS11, and VX6: the fault outlives a reset. -/
theorem test_rule_807_900 :
    nextIs (step (holding start [] [0xD3]))
      (fun t => t.pc == 0x0151 && t.fault == some (.illegalOpcode 0xD3 0x0150) && t.ticks == 4 &&
        (hostReset t).fault == some (.illegalOpcode 0xD3 0x0150) && (hostReset t).pc == 0x0151) =
      true := by
  decide

/-- VS12: the secondary table's first row, behind the prefix. -/
theorem test_rule_808 :
    nextIs (exec (.prefix_CB 0x00) { start with b := 0x01 }) (fun t => t.b == 0x02) = true ∧
    nextIs (exec (.prefix_CB 0x7C) { start with h := 0x7F, f := flagsOfByte 0x10 })
      (fun t => t.h == 0x7F && t.f == flagsOfByte 0xB0) = true := by
  decide

/-- The state after NOP of the interrupt vectors. -/
def afterNop (ie iflag : Byte) (sp : Word) : State :=
  { start with pc := 0x0151, sp := sp, ime := true, ie := ie, iflag := iflag, ticks := 4 }

/-- VI1: the dispatch of VBlank. -/
theorem test_rule_921 :
    let t := handleInterrupts (afterNop 0x1F 0x01 0xD000)
    (t.sp == 0xCFFE && t.pc == 0x0040 && !t.ime && t.ticks == 24 && flatRead t 0xCFFE == 0x51 &&
      flatRead t 0xCFFF == 0x01) = true := by
  decide

/-- VI2 to VI5: the lowest bit wins, and a request counts only where IE and IME let it. -/
theorem test_rule_920_924 :
    (handleInterrupts (afterNop 0x1F 0x14 0xD000)).pc = 0x0050 ∧
    handleInterrupts (afterNop 0x02 0x01 0xD000) = afterNop 0x02 0x01 0xD000 ∧
    (handleInterrupts { afterNop 0x01 0x01 0xD000 with ime := false }).pc = 0x0151 ∧
    handleInterrupts (afterNop 0xE0 0xE0 0xD000) = afterNop 0xE0 0xE0 0xD000 := by
  decide

/-- VI7: SP wraps; the high byte goes to ROM address 0x0000 and the low byte becomes IE. -/
theorem test_rule_921_wraps :
    let t := handleInterrupts (afterNop 0x08 0x08 0x0001)
    (t.sp == 0xFFFF && t.pc == 0x0058 && t.ie == 0x51 && t.cart == blankCart) = true := by
  decide

/-- VI6 and VS4: a halted CPU is woken past its HALT, without and with a dispatch. -/
theorem test_rule_927 :
    (handleInterrupts { start with halted := true, ie := 0x04, iflag := 0x04 }).pc = 0x0151 ∧
    (handleInterrupts { start with halted := true, ie := 0x04, iflag := 0x04 }).halted = false ∧
    flatRead (handleInterrupts
      { start with halted := true, ime := true, sp := 0xD000, ie := 0x01, iflag := 0x01 }) 0xCFFE =
        0x51 := by
  decide

/-- VS6: a joypad request ends a stop. -/
theorem test_rule_928 :
    (handleInterrupts { start with stopped := true, iflag := 0x10 }).stopped = false ∧
    (handleInterrupts { start with stopped := true, iflag := 0x0F }).stopped = true := by
  decide

/-! ## Bus, cartridge and DMA -/

/-- An image whose bank `k` starts with the byte `k`, for the banks named. -/
def banked (typeByte ramByte : Byte) (len : Nat) (banks : List Nat) : Image :=
  { len := len,
    bytes := [(0x0147, typeByte), (0x0149, ramByte)].filter (fun p => p.2 != 0) ++
      banks.map (fun k => (0x4000 * k, BitVec.ofNat 8 k)) }

/-- The core with such an image loaded. -/
def loaded (typeByte ramByte : Byte) (len : Nat) (banks : List Nat) (save : List Byte) : State :=
  loadCartridge State.reset (banked typeByte ramByte len banks) save

/-- Stores, one after another. -/
def stores (s : State) (l : List (Word × Byte)) : State := l.foldl (fun t p => busWrite t p.1 p.2) s

/-- The MBC1 image of the vectors, 128 banks. -/
def mbc1Start : State := loaded 0x01 0x00 0x200000 [1, 0x21, 0x41, 0x61, 0x7F] []

/-- VM1 to VM5. -/
theorem test_rule_151 :
    busByte mbc1Start 0x4000 = 0x01 ∧
    busByte (stores mbc1Start [(0x2000, 0x00)]) 0x4000 = 0x01 ∧
    busByte (stores mbc1Start [(0x2000, 0x20)]) 0x4000 = 0x01 ∧
    busByte (stores mbc1Start [(0x4000, 0x01), (0x2000, 0x00)]) 0x4000 = 0x21 ∧
    busByte (stores mbc1Start [(0x4000, 0x02), (0x2000, 0x00)]) 0x4000 = 0x41 ∧
    busByte (stores mbc1Start [(0x4000, 0x03), (0x2000, 0x00)]) 0x4000 = 0x61 := by
  decide

/-- VM6 to VM9. -/
theorem test_rule_148_150 :
    busByte (stores mbc1Start [(0x4000, 0x03), (0x2000, 0x1F)]) 0x4000 = 0x7F ∧
    busByte (stores mbc1Start [(0x4000, 0x03), (0x2000, 0xE1)]) 0x4000 = 0x61 ∧
    busByte (stores mbc1Start [(0x4000, 0x03), (0x2000, 0xE1), (0x6000, 0x01), (0x4000, 0x00)])
      0x4000 = 0x61 ∧
    busByte (stores (loaded 0x01 0x00 0x40000 [1, 5] []) [(0x2000, 0x15)]) 0x4000 = 0x05 := by
  decide

/-- The MBC1 cartridge with 32KB of RAM of VM10, RAM enabled. -/
def ramStart : State := stores (loaded 0x03 0x03 0x200000 [1] []) [(0x0000, 0x0A)]

/-- VM10: the round trip of external RAM, and the window while disabled. -/
theorem test_rule_145 :
    busByte (loaded 0x03 0x03 0x200000 [1] []) 0xA000 = 0xFF ∧
    busByte (stores ramStart [(0xA000, 0xC0)]) 0xA000 = 0xC0 ∧
    busByte (stores ramStart [(0xA000, 0xC0), (0x0000, 0x00)]) 0xA000 = 0xFF ∧
    busByte (stores ramStart [(0xA000, 0xC0), (0x0000, 0x00), (0xA000, 0x11), (0x0000, 0x0A)])
      0xA000 = 0xC0 := by
  decide

/-- VM12 to VM15. -/
theorem test_rule_152 :
    (stores ramStart [(0x6000, 0x01), (0x4000, 0x02), (0xA123, 0x77)]).cart.eram =
      [(0x4123, 0x77)] ∧
    busByte (stores ramStart [(0x6000, 0x01), (0x4000, 0x02), (0xA123, 0x77), (0x6000, 0x00)])
      0xA123 = 0x77 ∧
    busByte (stores (loaded 0x03 0x01 0x8000 [] []) [(0x0000, 0x0A), (0xA900, 0x5C)]) 0xA100 =
      0x5C ∧
    busByte (stores (loaded 0x01 0x00 0x8000 [] []) [(0x0000, 0x0A), (0xA000, 0x12)]) 0xA000 =
      0xFF := by
  decide

/-- The MBC3 image of the vectors, RAM enabled. -/
def mbc3Start : State := stores (loaded 0x13 0x03 0x200000 [1, 5, 0x20] []) [(0x0000, 0x0A)]

/-- VM16. -/
theorem test_rule_154 :
    busByte (stores mbc3Start [(0x2000, 0x00)]) 0x4000 = 0x01 ∧
    busByte (stores mbc3Start [(0x2000, 0x80)]) 0x4000 = 0x01 ∧
    busByte (stores mbc3Start [(0x2000, 0x20)]) 0x4000 = 0x20 ∧
    busByte (stores mbc3Start [(0x2000, 0x85)]) 0x4000 = 0x05 := by
  decide

/-- VM17 and VM18: the latch takes what `RTC_NOW` gives, and a store to a latched field holds. -/
theorem test_rule_156_157 :
    busByte (stores mbc3Start [(0x4000, 0x08)]) 0xA000 = 0x00 ∧
    busByte (stores mbc3Start [(0x4000, 0x0A), (0x6000, 0x55)]) 0xA000 =
      (Config.rtcNow mbc3Start.draws).hours ∧
    busByte (stores mbc3Start [(0x4000, 0x0C), (0x6000, 0x00)]) 0xA000 =
      (Config.rtcNow mbc3Start.draws).dayHigh ∧
    busByte (stores mbc3Start [(0x4000, 0x08), (0xA000, 0x3B)]) 0xA000 = 0x3B :=
  ⟨by decide, rfl, rfl, by decide⟩

/-- VM19: select 0x05 reaches nothing. -/
theorem test_rule_155 :
    busByte (stores mbc3Start [(0x4000, 0x05), (0xA000, 0x99)]) 0xA000 = 0xFF ∧
    (stores mbc3Start [(0x4000, 0x05), (0xA000, 0x99), (0x4000, 0x01), (0xA000, 0x44)]).cart.eram =
      [(0x2000, 0x44)] := by
  decide

/-- VM20 and VM21. -/
theorem test_rule_146_103 :
    let s := stores (loaded 0x00 0x00 0x8000 [1] []) [(0x2000, 0x05), (0x0000, 0x0A), (0xFF4D, 0x01)]
    busByte s 0x4000 = 0x01 ∧ busByte s 0xA000 = 0xFF ∧ busByte s 0xFF4D = 0xFF ∧
      flatRead s 0xFF4D = 0x01 := by
  decide

/-- VD1: OAM DMA from 0xC100, at its two ends. -/
theorem test_rule_120 :
    nextIs (exec (.ldh_at8_a 0x46) { holding start [(0xC100, 0x07), (0xC19F, 0x9F)] [] with a := 0xC1 })
      (fun t => flatRead t 0xFE00 == 0x07 && flatRead t 0xFE9F == 0x9F && flatRead t 0xFEA0 == 0x00 &&
        flatRead t 0xFF46 == 0x00 && t.ticks == 4) = true := by
  decide +kernel

/-- VD2 and VD3: a copy of OAM onto itself, and of a disabled window. -/
theorem test_rule_121 :
    nextIs (exec (.ldh_at8_a 0x46) { holding start [(0xFE00, 0x33), (0xFE9F, 0x44)] [] with a := 0xFE })
      (fun t => flatRead t 0xFE00 == 0x33 && flatRead t 0xFE9F == 0x44) = true ∧
    nextIs (exec (.ldh_at8_a 0x46) { loaded 0x03 0x03 0x8000 [] [] with a := 0xA0 })
      (fun t => flatRead t 0xFE00 == 0xFF && flatRead t 0xFE9F == 0xFF) = true := by
  decide +kernel

/-! ## Load and reset -/

/-- VX1. -/
theorem test_rule_1000 :
    let t := hostReset (loaded 0x00 0x00 0x8000 [1] [])
    regAF t = 0x01B0 ∧ regHL t = 0x014D ∧ t.sp = 0xFFFE ∧ t.pc = 0x0100 ∧ flatRead t 0xFF40 = 0x91 ∧
      flatRead t 0xFF47 = 0xFC ∧ flatRead t 0xFF48 = 0xFF ∧ flatRead t 0xC000 = 0x00 := by
  decide +kernel

/-- VX2 to VX4. -/
theorem test_rule_902_1010 :
    (loaded 0x05 0x00 0x8000 [] []).fault = some (.unsupportedCartridge 0x05 0x8000) ∧
    (loaded 0x01 0x00 0x800001 [] []).fault = some (.unsupportedCartridge 0x01 0x800001) ∧
    (loaded 0x01 0x00 0x800000 [] []).fault = none ∧
    nBanks (loaded 0x01 0x00 0x800000 [] []).cart = 512 := by
  decide

/-- VX5. -/
theorem test_rule_141 :
    busByte (loadCartridge State.reset { len := 0x4000, bytes := [(0x0000, 0x3C)] } []) 0x4000 = 0x3C ∧
    busByte (loadCartridge State.reset { len := 0x5000, bytes := [] } []) 0x5000 = 0xFF := by
  decide

/-- VX7: a reset leaves the cartridge's banking as it is. -/
theorem test_rule_1001 :
    let s := stores (loaded 0x03 0x03 0x200000 [1, 5] []) [(0x2000, 0x05), (0x0000, 0x0A)]
    busByte (hostReset s) 0x4000 = 0x05 ∧ (hostReset s).cart.ramEnabled = true := by
  decide

/-- VX8. -/
theorem test_rule_161 :
    (loaded 0x03 0x02 0x8000 [] [0x01, 0x02, 0x03, 0x04]).cart.eram =
      [(0, 0x01), (1, 0x02), (2, 0x03), (3, 0x04)] := by
  decide

/-! ## Table words -/

/-- A table word is decoded, and runs first after reset: VL3, VS12's shape, and CALL. -/
theorem test_table_words :
    decodeTableWord 16 0x000E = some (.ld_c_d8 0x00) ∧
    decodeTableWord 16 0xCB7C = some .bit_7_h ∧
    decodeTableWord 24 0x0000CD = some (.call_a16 0x0000) ∧
    nextIs (step (State.reset.withFetchWord 16 0xCB7C)) (fun t => t.pc == 0x0102 && t.ticks == 8) =
      true ∧
    nextIs (step (State.reset.withFetchWord 24 0x0300CD))
      (fun t => t.pc == 0x0300 && t.sp == 0xFFFC && t.ticks == 24) = true := by
  decide

/-! ## Witnesses: for each statement with hypotheses, what meets them -/

/-- The start state meets the invariant, halted or not. -/
theorem test_start_inv : Inv start :=
  { mem_wf := by decide, mem_within := by decide, io_wf := by decide, io_within := by decide,
    cart :=
      { rom_wf := by decide, rom_within := by decide, rom_bound := by decide, eram_wf := by decide,
        eram_within := by decide, ram_sizes := by decide, no_banking := by decide,
        bank_nonzero := by decide },
    enable_spent := rfl, one_wait := by decide, wait_no_bug := by decide }

theorem test_halted_inv : Inv { start with halted := true } :=
  { test_start_inv with one_wait := by decide, wait_no_bug := by decide }

theorem test_witness_decode_of_encode :
    WellFormed (.jp_a16 0x0150) = true ∧ WellFormed .stop = true ∧ WellFormed .set_7_a = true := by
  decide

theorem test_witness_decoded_bytes :
    decode [0xC3, 0x50, 0x01, 0x76] = .ok (.jp_a16 0x0150, [0x76]) ∧
    decode [0x10, 0x3C, 0x76] = .ok (.stop, [0x76]) :=
  ⟨rfl, rfl⟩

/-- A running core with LD A,0x12 at PC, in ROM and in RAM. -/
theorem test_witness_step_runs_decoded :
    (let s := holding start [] [0x3E, 0x12]
     s.fault = none ∧ s.cart.variant ≠ .absent ∧ s.halted = false ∧ s.stopped = false ∧
       s.haltBug = false ∧ decode [0x3E, 0x12] = .ok (.ld_a_d8 0x12, []) ∧
       BytesAt s s.pc [0x3E, 0x12]) ∧
    (let s := holding { start with pc := 0xFFFE } [] [0x3E, 0x12]
     BytesAt s s.pc [0x3E, 0x12]) :=
  ⟨⟨rfl, by decide, rfl, rfl, rfl, rfl, by decide, by decide, by decide, by decide, trivial⟩,
    by decide, by decide, by decide, by decide, trivial⟩

/-- Under the halt bug the opcode at PC is its own first operand: 0x3E alone is LD A,0x3E, and 0xC3 0x50
is JP 0x50C3. -/
theorem test_witness_step_under_halt_bug :
    (let s := { holding start [] [0x3E] with haltBug := true }
     s.fault = none ∧ s.cart.variant ≠ .absent ∧ s.halted = false ∧ s.stopped = false ∧
       s.haltBug = true ∧ decode [0x3E, 0x3E] = .ok (.ld_a_d8 0x3E, []) ∧
       BytesAt s s.pc [0x3E] ∧
       nextIs (step s) (fun t => t.a == 0x3E && t.pc == 0x0151 && !t.haltBug && t.ticks == 8) =
         true) ∧
    (let s := { holding start [] [0xC3, 0x50] with haltBug := true }
     decode [0xC3, 0xC3, 0x50] = .ok (.jp_a16 0x50C3, []) ∧ BytesAt s s.pc [0xC3, 0x50] ∧
       nextIs (step s) (fun t => t.pc == 0x50C3 && !t.haltBug && t.ticks == 16) = true) :=
  ⟨⟨rfl, by decide, rfl, rfl, rfl, rfl, ⟨by decide, by decide, trivial⟩, by decide⟩,
    ⟨rfl, ⟨by decide, by decide, by decide, by decide, trivial⟩, by decide⟩⟩

theorem test_witness_halt_bug_prefix :
    let s := { holding start [] [0xCB] with haltBug := true }
    s.haltBug = true ∧ periphOwned s.pc = false ∧ busByte s s.pc = 0xCB := by
  decide

theorem test_witness_fault_state :
    ({ start with fault := some (.illegalOpcode 0xFC 0x0150) } : State).fault ≠ none := by decide

theorem test_witness_idle :
    (start.fault = none ∧ ({ start with halted := true } : State).halted = true) ∧
    ({ start with stopped := true } : State).stopped = true := by
  decide

theorem test_witness_step_answers :
    ({ State.reset with fault := some (.illegalOpcode 0xFC 0x0150) } : State).fault ≠ none ∧
    start.cart.variant ≠ .absent ∧
    State.reset.fault = none ∧ State.reset.cart.variant = .absent ∧
    (match step State.reset with | .refused .noCartridge => true | _ => false) = true := by
  decide

/-- 0xD3 and 0xFD, the first and the last of the eleven bytes. -/
theorem test_witness_illegal :
    (∃ t, step (holding start [] [0xD3]) = .next t ∧ t.fault ≠ none) ∧
    (∃ t, step (holding start [] [0xFD]) = .next t ∧ t.fault ≠ none) ∧
    (holding start [] [0xD3]).fault = none ∧ periphOwned 0x0150 = false :=
  ⟨⟨_, rfl, by decide⟩, ⟨_, rfl, by decide⟩, rfl, by decide⟩

/-- A step of the start state, which runs NOP: a witness for every statement about `step s = next t`. -/
theorem test_witness_step :
    ∃ t, Inv start ∧ start.fault = none ∧ step start = .next t :=
  ⟨_, test_start_inv, rfl, rfl⟩

/-- The two cases of a step's ticks, and a step with a dispatch. -/
theorem test_witness_ticks :
    (∃ t, step { start with fault := some (.illegalOpcode 0xD3 0) } = .next t ∧ t.ticks = 0) ∧
    nextIs (step { start with halted := true }) (fun t => t.ticks == 4) = true ∧
    nextIs (thenHandle (exec .nop { start with ticks := 4, ime := true, ie := 1, iflag := 1 }))
      (fun t => t.ticks == 24) = true :=
  ⟨⟨_, rfl, rfl⟩, by decide, by decide⟩

theorem test_witness_final :
    ∃ t, Inv { start with halted := true } ∧ Final { start with halted := true } ∧
      Host.Core.run Sys2Proof.core 2 { start with halted := true } = .next t :=
  ⟨_, test_halted_inv, ⟨rfl, rfl, by decide⟩, rfl⟩

/-- Every clause about a writer of hidden state is met by that writer. -/
theorem test_witness_hidden_writers :
    (∃ t, exec .di { start with ime := true } = .next t ∧ t.ime ≠ true) ∧
    (∃ t, exec .ei start = .next t ∧ t.eiPending ≠ start.eiPending) ∧
    (∃ t, exec .reti start = .next t ∧ t.eiPending ≠ start.eiPending) ∧
    (∃ t, exec .halt start = .next t ∧ t.halted ≠ start.halted) ∧
    (∃ t, exec .halt { start with ie := 1, iflag := 1 } = .next t ∧ t.haltBug ≠ start.haltBug) ∧
    (∃ t, exec .stop start = .next t ∧ t.stopped ≠ start.stopped) ∧
    (∃ t, exec .illegal_E4 start = .next t ∧ t.fault ≠ start.fault) :=
  ⟨⟨_, rfl, by decide⟩, ⟨_, rfl, by decide⟩, ⟨_, rfl, by decide⟩, ⟨_, rfl, by decide⟩,
    ⟨_, rfl, by decide⟩, ⟨_, rfl, by decide⟩, ⟨_, rfl, by decide⟩⟩

theorem test_witness_flag_readers :
    readsFlags .add_a_b = false ∧ readsFlags .ccf = false ∧ readsFlags .rlc_b = false := by decide

theorem test_witness_load_reset_inv :
    Memory.wf zeroByte (banked 0x13 0x03 0x8000 [1]).bytes ∧
    Memory.within (fun a => decide (a < 0x8000)) (banked 0x13 0x03 0x8000 [1]).bytes := by
  decide

/-- The first and last addresses of the two ranges that the flat array shows after a reset. -/
theorem test_witness_reset_values :
    start.fault = none ∧ inExternal 0x8000 = false ∧ inExternal 0x9FFF = false ∧
    inExternal 0xC000 = false ∧ inExternal 0xFFFF = false ∧
    flatRead (hostReset start) 0x8000 = 0x00 ∧ flatRead (hostReset start) 0xFFFF = 0x00 := by
  decide

/-- Types and lengths where LoadCartridge's two clauses meet. -/
theorem test_witness_load_outcome :
    (loaded 0x03 0x05 0x800000 [] []).cart.variant = .mbc1 ∧
    (loaded 0x03 0x05 0x800000 [] []).cart.ramLen = 0x10000 ∧
    (loaded 0x03 0x06 0x8000 [] []).cart.ramLen = 0 ∧
    (loaded 0x04 0x00 0x8000 [] []).fault = some (.unsupportedCartridge 0x04 0x8000) ∧
    (loaded 0x0E 0x00 0x8000 [] []).fault = some (.unsupportedCartridge 0x0E 0x8000) ∧
    (loaded 0x0F 0x00 0x8000 [] []).cart.variant = .mbc3 ∧
    (loaded 0x13 0x00 0x8000 [] []).cart.variant = .mbc3 ∧
    (loaded 0x14 0x00 0x8000 [] []).fault = some (.unsupportedCartridge 0x14 0x8000) := by
  decide

/-- A load with save bytes, and an offset inside the RAM, at its end and past it. -/
theorem test_witness_save_ram :
    let s := loaded 0x03 0x01 0x8000 [] [0x01, 0x02]
    State.reset.fault = none ∧ s.fault = none ∧ s.cart.ramLen = 0x800 ∧
      Memory.read zeroByte s.cart.eram 1 = 0x02 ∧ Memory.read zeroByte s.cart.eram 0x7FF = 0x00 ∧
      Memory.read zeroByte s.cart.eram 0x800 = 0x00 := by
  decide

/-- The five cases of HandleInterrupts. -/
theorem test_witness_handle :
    (let s := { start with fault := some (.illegalOpcode 0xD3 0) }; s.fault ≠ none) ∧
    (let s := { start with stopped := true }
     s.fault = none ∧ s.stopped = true ∧ s.iflag.getLsbD 4 = false) ∧
    (let s := { start with ie := 0xE0, iflag := 0xFF, stopped := true }
     s.iflag.getLsbD 4 = true ∧ s.ie &&& s.iflag &&& 0x1F = 0) ∧
    (let s := { start with ie := 0x10, iflag := 0x10, ime := true }
     s.stopped = false ∧ s.ie &&& s.iflag &&& 0x1F ≠ 0 ∧ s.ime = true ∧
       IsLowest (s.ie &&& s.iflag &&& 0x1F) 4) ∧
    (let s := { start with ie := 0x01, iflag := 0x01 }
     s.stopped = false ∧ s.ie &&& s.iflag &&& 0x1F ≠ 0 ∧ s.ime = false) := by
  refine ⟨by decide, by decide, by decide, ⟨by decide, by decide, by decide, by decide, by decide⟩,
    by decide⟩

theorem test_witness_ei :
    start.fault = none ∧ start.stopped = false ∧ start.halted = false ∧ start.ime = false := by
  decide

/-- The bytes a dispatch, a CALL or a PUSH leaves alone: here one next to the two it pushes. -/
theorem test_witness_push_frame :
    periphOwned 0xCFFD = false ∧ storeReach (0xD000 - 1) 0xCFFD = false ∧
      storeReach (0xD000 - 2) 0xCFFD = false := by
  decide

/-- Bus reads at the ends of the ROM window and past the image, at the ends of the two flat ranges and
next to 0xFF4D, and a store read back. -/
theorem test_witness_bus_reads :
    let s := loadCartridge State.reset { len := 0x3FFF, bytes := [(0x0000, 0x3C), (0x3FFE, 0x5A)] } []
    busByte s 0x0000 = 0x3C ∧ busByte s 0x3FFE = 0x5A ∧ busByte s 0x3FFF = 0xFF ∧
    ([(0x8000 : Word), 0x9FFF, 0xC000, 0xFF0F, 0xFF40, 0xFF4C, 0xFF4E, 0xFFFF].all fun a =>
      !inExternal a && !Config.isAudio a.toNat && a != 0xFF4D && storesFlat a &&
        busByte (busWrite s a 0x7E) a == 0x7E) = true ∧
    Config.isAudio 0xFF10 = true ∧ Config.isAudio 0xFF3F = true ∧ inExternal 0xFF10 = false := by
  decide


/-- 0xB0 shows Z, H and C without N. -/
theorem test_witness_pushed_flags :
    ShowsFlags 0xB0 { z := true, n := false, h := true, c := true } ∧
    lowByte (stk16 start .af) = 0xB0 ∧ highByte (stk16 start .af) = 0x01 := by
  unfold ShowsFlags; decide

theorem test_witness_constant_registers :
    Inv start ∧ busByte start 0xFF46 = 0x00 ∧ busByte (busWrite start 0xFF46 0xC0) 0xFF46 = 0x00 :=
  ⟨test_start_inv, by decide, by decide +kernel⟩

theorem test_witness_dma :
    periphOwned (mkWord 0xC1 0 + BitVec.ofNat 16 159) = false ∧
    periphOwned 0xFDFF = false ∧ periphOwned 0xFEA0 = false ∧ ({ start with a := 0xFE } : State).a = 0xFE := by
  decide

/-- The first and last addresses of the MBC1's control ranges. -/
theorem test_witness_mbc1 :
    mbc1Start.cart.variant = .mbc1 ∧
    (stores mbc1Start [(0x1FFF, 0x0A)]).cart.ramEnabled = true ∧
    (stores mbc1Start [(0x2000, 0x3F)]).cart.romLow = 0x1F ∧
    (stores mbc1Start [(0x3FFF, 0x3F)]).cart.romLow = 0x1F ∧
    (stores mbc1Start [(0x4000, 0x07)]).cart.romHigh = 0x3 ∧
    (stores mbc1Start [(0x5FFF, 0x07)]).cart.romHigh = 0x3 ∧
    (stores mbc1Start [(0x6000, 0x03)]).cart.mode = 1 ∧
    (stores mbc1Start [(0x7FFF, 0x03), (0x5FFF, 0x02)]).cart.ramBank = 0x2 ∧
    (stores mbc1Start [(0x7FFF, 0x03), (0x5FFF, 0x02)]).cart.romHigh = 0x0 := by
  decide

/-- The first and last addresses of the MBC3's control ranges. -/
theorem test_witness_mbc3 :
    mbc3Start.cart.variant = .mbc3 ∧
    (stores mbc3Start [(0x1FFF, 0x00)]).cart.ramEnabled = false ∧
    (stores mbc3Start [(0x3FFF, 0xFF)]).cart.romBank7 = 0x7F ∧
    (stores mbc3Start [(0x4000, 0xFF)]).cart.select = 0xFF ∧
    (stores mbc3Start [(0x5FFF, 0x0C)]).cart.select = 0x0C ∧
    (stores mbc3Start [(0x6000, 0x00)]).cart.rtc = Config.rtcNow mbc3Start.draws ∧
    (stores mbc3Start [(0x7FFF, 0x01)]).cart.rtc = Config.rtcNow mbc3Start.draws :=
  ⟨by decide, by decide, by decide, by decide, by decide, rfl, rfl⟩

/-- The external window's ends, and the selects where its clauses meet. -/
theorem test_witness_window :
    inExternal 0xA000 = true ∧ inExternal 0xBFFF = true ∧ inExternal 0x9FFF = false ∧
    inExternal 0xC000 = false ∧
    (start.cart.ramEnabled = false ∧ start.cart.ramLen = 0) ∧
    (ramStart.cart.ramEnabled = true ∧ ramStart.cart.variant = .mbc1 ∧ ramStart.cart.ramLen > 0) ∧
    (stores (loaded 0x01 0x00 0x8000 [] []) [(0x0000, 0x0A)]).cart.ramLen = 0 ∧
    busByte (stores mbc3Start [(0x4000, 0x03), (0xBFFF, 0x5A)]) 0xBFFF = 0x5A ∧
    busByte (stores mbc3Start [(0x4000, 0x04), (0xA000, 0x5A)]) 0xA000 = 0xFF ∧
    busByte (stores mbc3Start [(0x4000, 0x07), (0xA000, 0x5A)]) 0xA000 = 0xFF ∧
    busByte (stores mbc3Start [(0x4000, 0x08), (0xA000, 0x5A)]) 0xA000 = 0x5A ∧
    busByte (stores mbc3Start [(0x4000, 0x0C), (0xA000, 0x5A)]) 0xA000 = 0x5A ∧
    busByte (stores mbc3Start [(0x4000, 0x0D), (0xA000, 0x5A)]) 0xA000 = 0xFF := by
  decide

theorem test_witness_no_banking :
    start.cart.variant = .noBanking ∧ inExternal 0xBFFF = true ∧
    busByte (loaded 0x00 0x00 0x8000 [1] []) 0x4000 = windowByte (loaded 0x00 0x00 0x8000 [1] []).cart 1 0x4000 ∧
    busByte start 0x7FFF = windowByte start.cart 1 0x7FFF := by
  decide

/-- Addresses that are not the Peripherals', for the loads and pops, and pairs other than SP and AF. -/
theorem test_witness_loads_and_pops :
    periphOwned 0xC123 = false ∧ periphOwned 0xFFFF = false ∧ periphOwned (0xFFFE + 1) = false ∧
    Reg16.bc ≠ .sp ∧ StkReg.bc ≠ .af ∧ StkReg.hl ≠ .af := by
  decide

/-- Packed decimal operands, at the ends of their range. -/
theorem test_witness_bcd :
    isBcd 0x00 = true ∧ isBcd 0x99 = true ∧ isBcd 0x9A = false ∧ bcdValue 0x99 = 99 := by decide

/-- Each condition holds in some flags and fails in others. -/
theorem test_witness_conditions :
    Taken (flagsOfByte 0x00) .nz ∧ ¬ Taken (flagsOfByte 0x80) .nz ∧ Taken (flagsOfByte 0x80) .z ∧
    ¬ Taken (flagsOfByte 0x00) .z ∧ Taken (flagsOfByte 0x00) .nc ∧ ¬ Taken (flagsOfByte 0x10) .nc ∧
    Taken (flagsOfByte 0x10) .c ∧ ¬ Taken (flagsOfByte 0x00) .c := by
  simp [Taken, flagsOfByte]

theorem test_witness_halt :
    (let s := { start with ie := 0x04, iflag := 0x04 }
     s.ime = false ∧ s.ie &&& s.iflag &&& 0x1F ≠ 0) ∧
    ¬(start.ime = false ∧ start.ie &&& start.iflag &&& 0x1F ≠ 0) := by
  decide

end Sys2Proof.Tests
end

section
/-! PROOFS. What each instruction does to the hidden state of R60: all but six kinds leave it alone. -/

namespace Sys2Proof.Proofs

open Sys2Proof.Machine Sys2Proof.Claims Sys2Proof.Laws

/-! ## Operations that keep the hidden state -/

/-- From `s` to `t` no hidden state changes (R60), and storage stays well-formed. -/
structure Calm (s t : State) : Prop where
  hidden : SameHidden s t
  storage : StorageInv s → StorageInv t

theorem Calm.refl (s : State) : Calm s s := ⟨sameHidden_refl s, id⟩

theorem Calm.trans {s t u : State} (h : Calm s t) (k : Calm t u) : Calm s u :=
  ⟨sameHidden_trans h.hidden k.hidden, fun i => k.storage (h.storage i)⟩

/-- A change of registers alone is calm. -/
theorem calm_of_regsOnly {s t : State} (h : RegsOnly s t) : Calm s t := by
  have hm := congrArg State.mem h
  have hi := congrArg State.io h
  have hc := congrArg State.cart h
  exact ⟨(regsOnly_waits h).hidden, fun i => storageInv_congr i hm hi hc⟩

/-- Registers changed after calm operations. -/
theorem Calm.regs {s t u : State} (h : Calm s t) (k : RegsOnly t u) : Calm s u :=
  h.trans (calm_of_regsOnly k)

theorem Calm.withF {s t : State} (h : Calm s t) (g : Flags) : Calm s { t with f := g } := h.regs rfl

theorem Calm.withSp {s t : State} (h : Calm s t) (w : Word) : Calm s { t with sp := w } := h.regs rfl

theorem Calm.withPc {s t : State} (h : Calm s t) (w : Word) : Calm s { t with pc := w } := h.regs rfl

theorem Calm.withHL {s t : State} (h : Calm s t) (w : Word) : Calm s (setHL t w) := h.regs rfl

theorem setR8_regsOnly (s : State) (q : Reg8) (v : Byte) : RegsOnly s (setR8 s q v) := by
  cases q <;> rfl

theorem setR16_regsOnly (s : State) (p : Reg16) (v : Word) : RegsOnly s (setR16 s p v) := by
  cases p <;> rfl

theorem setStk16_regsOnly (s : State) (p : StkReg) (v : Word) : RegsOnly s (setStk16 s p v) := by
  cases p <;> rfl

theorem setR8_calm (s : State) (q : Reg8) (v : Byte) : Calm s (setR8 s q v) :=
  calm_of_regsOnly (setR8_regsOnly s q v)

theorem memRead_calm (s : State) (a : Word) : Calm s (memRead s a).2 :=
  ⟨(memRead_waits s a).hidden, memRead_storageInv s a⟩

theorem memWrite_calm (s : State) (a : Word) (v : Byte) : Calm s (memWrite s a v) :=
  ⟨(memWrite_store s a v).hidden, memWrite_storageInv s a v⟩

theorem internal_calm (s : State) : Calm s (internal s) :=
  ⟨(internal_waits s).hidden, internal_storageInv s⟩

theorem popWord_calm (s : State) : Calm s (popWord s).2 :=
  ⟨(popWord_waits s).hidden, popWord_storageInv s⟩

theorem pushByte_calm (s : State) (v : Byte) : Calm s (pushByte s v) :=
  ((Calm.refl s).withSp (s.sp - 1)).trans (memWrite_calm _ _ v)

theorem pushWord_calm (s : State) (w : Word) : Calm s (pushWord s w) :=
  (pushByte_calm s _).trans (pushByte_calm _ _)

theorem modifyHL_calm (s : State) (g : Byte → Byte) : Calm s (modifyHL s g) :=
  (memRead_calm s _).trans (memWrite_calm _ _ _)

theorem loadRegAt_calm (s : State) (q : Reg8) (a : Word) : Calm s (loadRegAt s q a) :=
  (memRead_calm s a).regs (setR8_regsOnly _ q _)

theorem loadAStep_calm (s : State) (d : Word) : Calm s (loadAStep s d) :=
  (loadRegAt_calm s .a _).withHL _

theorem storeAStep_calm (s : State) (d : Word) : Calm s (storeAStep s d) :=
  (memWrite_calm s _ s.a).withHL _

theorem aluMemHL_calm (s : State) (o : AluOp) : Calm s (aluMemHL s o) :=
  (memRead_calm s _).regs rfl

theorem addToHL_calm (s : State) (p : Reg16) : Calm s (addToHL s p) :=
  ((internal_calm s).withHL _).withF _

theorem stepPair_calm (s : State) (p : Reg16) (d : Word) : Calm s (stepPair s p d) :=
  (internal_calm s).regs (setR16_regsOnly _ p _)

theorem addToSP_calm (s : State) (e : Byte) : Calm s (addToSP s e) :=
  ((internal_calm s).trans (internal_calm _)).regs rfl

theorem rotateReg_calm (s : State) (o : RotOp) (q : Reg8) : Calm s (rotateReg s o q) :=
  (setR8_calm s q _).withF _

theorem rotateMemHL_calm (s : State) (o : RotOp) : Calm s (rotateMemHL s o) :=
  (modifyHL_calm s _).withF _

theorem bitTestReg_calm (s : State) (b : Fin 8) (q : Reg8) : Calm s (bitTestReg s b q) :=
  (Calm.refl s).withF _

theorem bitTestMemHL_calm (s : State) (b : Fin 8) : Calm s (bitTestMemHL s b) :=
  (memRead_calm s _).withF _

theorem resReg_calm (s : State) (b : Fin 8) (q : Reg8) : Calm s (resReg s b q) :=
  setR8_calm s q _

theorem setReg_calm (s : State) (b : Fin 8) (q : Reg8) : Calm s (setReg s b q) :=
  setR8_calm s q _

theorem jumpTo_calm (s : State) (w : Word) : Calm s (jumpTo s w) :=
  (internal_calm s).withPc w

theorem callTo_calm (s : State) (w : Word) : Calm s (callTo s w) :=
  ((internal_calm s).trans (pushWord_calm _ _)).withPc w

theorem returnPop_calm (s : State) : Calm s (returnPop s) :=
  ((popWord_calm s).trans (internal_calm _)).withPc _

/-- A conditional form is calm when both outcomes are. -/
theorem Calm.ite {s t u : State} (c : Bool) (h : Calm s t) (k : Calm s u) :
    Calm s (if c then t else u) := by
  cases c
  · exact k
  · exact h

theorem jumpIf_calm (s : State) (k : Cond) (w : Word) : Calm s (jumpIf s k w) :=
  .ite _ (jumpTo_calm s w) (.refl s)

theorem jumpRelIf_calm (s : State) (k : Cond) (e : Byte) : Calm s (jumpRelIf s k e) :=
  .ite _ (jumpTo_calm s _) (.refl s)

theorem callIf_calm (s : State) (k : Cond) (w : Word) : Calm s (callIf s k w) :=
  .ite _ (callTo_calm s w) (.refl s)

theorem returnIf_calm (s : State) (k : Cond) : Calm s (returnIf s k) :=
  .ite _ ((internal_calm s).trans (returnPop_calm _)) (internal_calm s)

theorem secondary_calm (s : State) (n : Byte) : Calm s (secondary s n) := by
  unfold secondary secondaryGroup
  split
  · exact rotateReg_calm s _ _
  · exact rotateMemHL_calm s _
  · exact bitTestReg_calm s _ _
  · exact bitTestMemHL_calm s _
  · exact resReg_calm s _ _
  · exact modifyHL_calm s _
  · exact setReg_calm s _ _
  · exact modifyHL_calm s _

/-! ## What each instruction does to the hidden state -/

/-- The instructions by what they do to the hidden state (R60): all are calm but DI, EI, RETI, HALT,
STOP and the illegal bytes. -/
inductive HiddenEffect : Instr → State → State → Prop where
  | calm {i : Instr} {s t : State} (h : Calm s t) : HiddenEffect i s t
  | di (s : State) : HiddenEffect .di s { s with ime := false }
  | ei (s : State) : HiddenEffect .ei s { s with eiPending := true }
  | reti (s : State) : HiddenEffect .reti s (returnFromInterrupt s)
  | halt (s : State) : HiddenEffect .halt s (haltCpu s)
  | stop (s : State) : HiddenEffect .stop s { s with stopped := true }
  | illegal (k : Fin 11) (s : State) :
      HiddenEffect (.illegal k) s (illegalOpcode s (illegalByte k))

theorem hiddenEffect_of_ran {i : Instr} {s t : State} (h : Ran i s t) : HiddenEffect i s t := by
  cases h with
  | loadRegReg q r => exact .calm (setR8_calm s q _)
  | loadImm q n => exact .calm (setR8_calm s q n)
  | loadMem q => exact .calm (loadRegAt_calm s q _)
  | storeReg r => exact .calm (memWrite_calm s _ _)
  | loadPair p nn => exact .calm (calm_of_regsOnly <| setR16_regsOnly s p nn)
  | push p => exact .calm ((internal_calm s).trans (pushWord_calm _ _))
  | pop p => exact .calm ((popWord_calm s).regs (setStk16_regsOnly _ p _))
  | aluReg o r => exact .calm (calm_of_regsOnly rfl)
  | aluMem o => exact .calm (aluMemHL_calm s o)
  | aluImm o n => exact .calm (calm_of_regsOnly rfl)
  | incReg r => exact .calm ((setR8_calm s r _).withF _)
  | decReg r => exact .calm ((setR8_calm s r _).withF _)
  | addHL p => exact .calm (addToHL_calm s p)
  | incPair p => exact .calm (stepPair_calm s p 1)
  | decPair p => exact .calm (stepPair_calm s p (-1))
  | rotReg o r => exact .calm (rotateReg_calm s o r)
  | rotMem o => exact .calm (rotateMemHL_calm s o)
  | bitReg b r => exact .calm (bitTestReg_calm s b r)
  | bitMem b => exact .calm (bitTestMemHL_calm s b)
  | resReg b r => exact .calm (resReg_calm s b r)
  | resMem b => exact .calm (modifyHL_calm s _)
  | setReg b r => exact .calm (setReg_calm s b r)
  | setMem b => exact .calm (modifyHL_calm s _)
  | jpCond k nn => exact .calm (jumpIf_calm s k nn)
  | jrCond k e => exact .calm (jumpRelIf_calm s k e)
  | callCond k nn => exact .calm (callIf_calm s k nn)
  | retCond k => exact .calm (returnIf_calm s k)
  | rst y => exact .calm (callTo_calm s _)
  | illegal k => exact .illegal k s
  | nop => exact .calm (.refl s)
  | ld_atBC_a => exact .calm (memWrite_calm s _ _)
  | rlca => exact .calm (calm_of_regsOnly rfl)
  | ld_at16_sp nn => exact .calm ((memWrite_calm s _ _).trans (memWrite_calm _ _ _))
  | ld_a_atBC => exact .calm (loadRegAt_calm s .a _)
  | rrca => exact .calm (calm_of_regsOnly rfl)
  | stop => exact .stop s
  | ld_atDE_a => exact .calm (memWrite_calm s _ _)
  | rla => exact .calm (calm_of_regsOnly rfl)
  | jr_r8 e => exact .calm (jumpTo_calm s _)
  | ld_a_atDE => exact .calm (loadRegAt_calm s .a _)
  | rra => exact .calm (calm_of_regsOnly rfl)
  | ld_atHLI_a => exact .calm (storeAStep_calm s 1)
  | daa => exact .calm (calm_of_regsOnly rfl)
  | ld_a_atHLI => exact .calm (loadAStep_calm s 1)
  | cpl => exact .calm (calm_of_regsOnly rfl)
  | ld_atHLD_a => exact .calm (storeAStep_calm s (-1))
  | inc_atHL => exact .calm ((modifyHL_calm s _).withF _)
  | dec_atHL => exact .calm ((modifyHL_calm s _).withF _)
  | ld_atHL_d8 n => exact .calm (memWrite_calm s _ _)
  | scf => exact .calm (calm_of_regsOnly rfl)
  | ld_a_atHLD => exact .calm (loadAStep_calm s (-1))
  | ccf => exact .calm (calm_of_regsOnly rfl)
  | halt => exact .halt s
  | jp_a16 nn => exact .calm (jumpTo_calm s nn)
  | ret => exact .calm (returnPop_calm s)
  | call_a16 nn => exact .calm (callTo_calm s nn)
  | reti => exact .reti s
  | ldh_at8_a n => exact .calm (memWrite_calm s _ _)
  | ldh_atC_a => exact .calm (memWrite_calm s _ _)
  | add_sp_r8 e => exact .calm (addToSP_calm s e)
  | jp_hl => exact .calm (calm_of_regsOnly rfl)
  | ld_at16_a nn => exact .calm (memWrite_calm s _ _)
  | ldh_a_at8 n => exact .calm (loadRegAt_calm s .a _)
  | ldh_a_atC => exact .calm (loadRegAt_calm s .a _)
  | di => exact .di s
  | ld_hl_sp_r8 e => exact .calm (((internal_calm s).withHL _).withF _)
  | ld_sp_hl => exact .calm ((internal_calm s).withSp _)
  | ld_a_at16 nn => exact .calm (loadRegAt_calm s .a nn)
  | ei => exact .ei s
  | prefixCB n => exact .calm (secondary_calm s n)

/-- What HALT does: the halt bug, or the wait with PC back on its opcode (R801). -/
theorem haltCpu_cases (s : State) :
    haltCpu s = { s with haltBug := true } ∨
      haltCpu s = { s with halted := true, pc := s.pc - 1 } := by
  unfold haltCpu
  split
  · exact .inl rfl
  · exact .inr rfl

/-- Settles O15: by what `HiddenEffect` says of each instruction. -/
theorem hiddenStateWriters : Obligations.HiddenStateWriters := by
  intro i s t h
  cases hiddenEffect_of_ran (ran_of_exec h) with
  | calm c =>
    obtain ⟨hime, hei, hhalted, hbug, hstopped, hfault, -⟩ := c.hidden
    exact ⟨absurd hime, absurd hei, absurd hhalted, absurd hbug, absurd hstopped, absurd hfault⟩
  | di => exact ⟨fun _ => rfl, absurd rfl, absurd rfl, absurd rfl, absurd rfl, absurd rfl⟩
  | ei => exact ⟨absurd rfl, fun _ => .inl rfl, absurd rfl, absurd rfl, absurd rfl, absurd rfl⟩
  | reti =>
    obtain ⟨hime, -, hhalted, hbug, hstopped, hfault, -⟩ := (returnPop_calm s).hidden
    exact ⟨absurd hime, fun _ => .inr rfl, absurd hhalted, absurd hbug, absurd hstopped,
      absurd hfault⟩
  | halt =>
    rcases haltCpu_cases s with e | e
    · rw [e]
      exact ⟨absurd rfl, absurd rfl, absurd rfl, fun _ => rfl, absurd rfl, absurd rfl⟩
    · rw [e]
      exact ⟨absurd rfl, absurd rfl, fun _ => rfl, absurd rfl, absurd rfl, absurd rfl⟩
  | stop => exact ⟨absurd rfl, absurd rfl, absurd rfl, absurd rfl, fun _ => rfl, absurd rfl⟩
  | illegal k =>
    exact ⟨absurd rfl, absurd rfl, absurd rfl, absurd rfl, absurd rfl, fun _ => ⟨k, rfl⟩⟩

end Sys2Proof.Proofs
end

section
/-! PROOFS. The invariant through a step: `Fetched` before the instruction, `MidStep` between ClockCpu
and HandleInterrupts, `Inv` after. -/

namespace Sys2Proof.Proofs

open Sys2Proof.Machine Sys2Proof.Claims Sys2Proof.Laws

/-- The invariant between ClockCpu and HandleInterrupts: as `Inv`, but the deferred enable may stand,
unless the core is faulted or stopped, where HandleInterrupts may not spend it. -/
structure MidStep (s : State) : Prop where
  storage : StorageInv s
  one_wait : ¬(s.halted = true ∧ s.stopped = true)
  wait_no_bug : s.halted = true ∨ s.stopped = true → s.haltBug = false
  enable_spent : s.fault ≠ none ∨ s.stopped = true → s.eiPending = false

theorem MidStep.inv {s : State} (h : MidStep s) (he : s.eiPending = false) : Inv s :=
  ⟨h.storage.mem_wf, h.storage.mem_within, h.storage.io_wf, h.storage.io_within, h.storage.cart, he,
    h.one_wait, h.wait_no_bug⟩

theorem MidStep.of_inv {s : State} (h : Inv s) : MidStep s :=
  ⟨storageInv_of_inv h, h.one_wait, h.wait_no_bug, fun _ => h.enable_spent⟩

/-- Calm operations keep it. -/
theorem MidStep.calm {s t : State} (h : MidStep s) (c : Calm s t) : MidStep t := by
  obtain ⟨hst, hone, hbug, hen⟩ := h
  obtain ⟨-, kei, khalted, kbug, kstopped, kfault, -⟩ := c.hidden
  exact ⟨c.storage hst, by rwa [khalted, kstopped], by rwa [khalted, kstopped, kbug],
    by rwa [kfault, kstopped, kei]⟩

/-- What a running core is like when its instruction has been fetched: nothing waits, no halt bug is
owed and no deferred enable stands. -/
structure Fetched (s : State) : Prop where
  storage : StorageInv s
  eiPending : s.eiPending = false
  halted : s.halted = false
  haltBug : s.haltBug = false
  stopped : s.stopped = false
  fault : s.fault = none

theorem Fetched.midStep {s : State} (h : Fetched s) : MidStep s :=
  ⟨h.storage, by simp [h.halted], fun _ => h.haltBug, fun _ => h.eiPending⟩

theorem Fetched.calm {s t : State} (h : Fetched s) (c : Calm s t) : Fetched t := by
  obtain ⟨-, kei, khalted, kbug, kstopped, kfault, -⟩ := c.hidden
  exact ⟨c.storage h.storage, kei.trans h.eiPending, khalted.trans h.halted, kbug.trans h.haltBug,
    kstopped.trans h.stopped, kfault.trans h.fault⟩

theorem fetchByte_calm (s : State) : Calm s (fetchByte s).2 := (memRead_calm s _).withPc _

theorem fetchOperands_calm (s : State) (m : Format) : Calm s (fetchOperands s m).2 := by
  cases m with
  | p1 => exact .refl s
  | p2 => exact fetchByte_calm s
  | p3 => exact (fetchByte_calm s).trans (fetchByte_calm _)
  | cb => exact fetchByte_calm s
  | stop => exact calm_of_regsOnly rfl

/-- The opcode's fetch uses up the halt bug (R806). -/
theorem fetchOpcode_fetched {s : State} (h : Inv s) (hf : s.fault = none) (hh : s.halted = false)
    (hs : s.stopped = false) : Fetched (fetchOpcode s).2 :=
  ⟨storageInv_congr (memRead_storageInv s s.pc (storageInv_of_inv h)) rfl rfl rfl,
    (fetchOpcode_eiPending s).trans h.enable_spent, (fetchOpcode_halted s).trans hh,
    fetchOpcode_haltBug s, (fetchOpcode_stopped s).trans hs, (fetchOpcode_fault s).trans hf⟩

theorem fetchInstr_fetched {s : State} (h : Inv s) (hf : s.fault = none) (hh : s.halted = false)
    (hs : s.stopped = false) : Fetched (fetchInstr s).2 :=
  (fetchOpcode_fetched h hf hh hs).calm (fetchOperands_calm _ _)

/-- EI and RETI leave a deferred enable, in a core that neither waits nor has failed. -/
theorem Fetched.enabling {s : State} (h : Fetched s) : MidStep { s with eiPending := true } := by
  obtain ⟨hst, -, hh, hb, hs, hf⟩ := h
  refine ⟨storageInv_congr hst rfl rfl rfl, fun w => ?_, fun _ => hb, fun w => ?_⟩
  · exact absurd (hh.symm.trans w.1) Bool.false_ne_true
  · rcases w with w | w
    · exact absurd hf w
    · exact absurd (hs.symm.trans w) Bool.false_ne_true

/-- HALT waits, or owes the halt bug, and never both (R801). -/
theorem Fetched.halting {s : State} (h : Fetched s) : MidStep (haltCpu s) := by
  obtain ⟨hst, he, hh, hb, hs, -⟩ := h
  rcases haltCpu_cases s with e | e
  · rw [e]
    exact ⟨storageInv_congr hst rfl rfl rfl, by simp [hh], by simp [hh, hs], fun _ => he⟩
  · rw [e]
    exact ⟨storageInv_congr hst rfl rfl rfl, by simp [hs], fun _ => hb, fun _ => he⟩

/-- Every instruction takes a fetched state to one that HandleInterrupts may be given. -/
theorem HiddenEffect.midStep {i : Instr} {s t : State} (e : HiddenEffect i s t) (h : Fetched s) :
    MidStep t := by
  have hst : ∀ u : State, u.mem = s.mem → u.io = s.io → u.cart = s.cart → StorageInv u :=
    fun _ => storageInv_congr h.storage
  cases e with
  | calm c => exact (h.calm c).midStep
  | di =>
    exact ⟨hst _ rfl rfl rfl, h.midStep.one_wait, fun _ => h.haltBug, fun _ => h.eiPending⟩
  | ei => exact h.enabling
  | reti => exact (h.calm (returnPop_calm s)).enabling
  | halt => exact h.halting
  | stop => exact ⟨hst _ rfl rfl rfl, by simp [h.halted], fun _ => h.haltBug, fun _ => h.eiPending⟩
  | illegal =>
    exact ⟨hst _ rfl rfl rfl, h.midStep.one_wait, fun _ => h.haltBug, fun _ => h.eiPending⟩

theorem clockCpu_midStep {s t : State} (h : Inv s) (e : clockCpu s = .next t) : MidStep t := by
  rcases clockCpu_cases e with ⟨-, rfl⟩ | ⟨-, -, rfl⟩ | ⟨hf, hh, hs, r⟩
  · exact .of_inv h
  · exact (MidStep.of_inv h).calm (memRead_calm s s.pc)
  · exact (hiddenEffect_of_ran r).midStep (fetchInstr_fetched h hf hh hs)

/-- IF and PC are no part of the invariant. -/
theorem inv_withIflagPc {s : State} (h : Inv s) (v : Byte) (w : Word) :
    Inv { s with iflag := v, pc := w } :=
  ⟨h.mem_wf, h.mem_within, h.io_wf, h.io_within, h.cart, h.enable_spent, h.one_wait, h.wait_no_bug⟩

/-- The tick counter is no part of the invariant. -/
theorem inv_zeroTicks {s : State} (h : Inv s) : Inv { s with ticks := 0 } :=
  ⟨h.mem_wf, h.mem_within, h.io_wf, h.io_within, h.cart, h.enable_spent, h.one_wait, h.wait_no_bug⟩

/-- Spending the deferred enable restores the invariant (R61, R922). -/
theorem enablePending_inv {s : State} (h : MidStep s) : Inv (enablePending s) :=
  ⟨h.storage.mem_wf, h.storage.mem_within, h.storage.io_wf, h.storage.io_within, h.storage.cart, rfl,
    h.one_wait, h.wait_no_bug⟩

/-- An interrupt entry drops the deferred enable, and its M-cycles are calm (R921). -/
theorem dispatch_inv {s : State} (h : MidStep s) (k : Fin 5) : Inv (dispatch s k) := by
  have h0 : MidStep { s with ime := false, eiPending := false } :=
    ⟨storageInv_congr h.storage rfl rfl rfl, h.one_wait, h.wait_no_bug, fun _ => rfl⟩
  have c : Calm { s with ime := false, eiPending := false }
      (internal (pushWord (internal (internal { s with ime := false, eiPending := false })) s.pc)) :=
    (((internal_calm _).trans (internal_calm _)).trans (pushWord_calm _ _)).trans (internal_calm _)
  exact inv_withIflagPc ((h0.calm c).inv c.hidden.eiPending) _ _

/-- The wake from HALT ends a wait and begins none (R927). -/
theorem wakeFromHalt_midStep {s : State} (h : MidStep s) : MidStep (wakeFromHalt s) := by
  refine ⟨storageInv_congr h.storage rfl rfl rfl, by simp, fun w => h.wait_no_bug (.inr ?_),
    h.enable_spent⟩
  simpa using w

theorem serviceInterrupts_inv {s : State} (h : MidStep s) : Inv (serviceInterrupts s) := by
  unfold serviceInterrupts
  split
  · exact enablePending_inv h
  · split
    · exact dispatch_inv (wakeFromHalt_midStep h) _
    · exact enablePending_inv (wakeFromHalt_midStep h)

/-- HandleInterrupts restores the invariant: where it stops at once no enable stands (R900, R928). -/
theorem handleInterrupts_inv {s : State} (h : MidStep s) : Inv (handleInterrupts s) := by
  unfold handleInterrupts
  split_ifs with hf hs
  · exact h.inv (h.enable_spent (.inl (by simpa [Option.isSome_iff_ne_none] using hf)))
  · exact h.inv (h.enable_spent (.inr (by simp_all)))
  · refine serviceInterrupts_inv ⟨storageInv_congr h.storage rfl rfl rfl, by simp,
      fun w => h.wait_no_bug (.inl ?_), fun w => ?_⟩
    · simpa using w
    · exact h.enable_spent (.inl (by simpa using w))

/-- Settles O19: ClockCpu takes `Inv` to `MidStep`, and HandleInterrupts takes it back to `Inv`. -/
theorem stepKeepsInv : Obligations.StepKeepsInv := by
  intro s t h e
  obtain ⟨u, hu, rfl⟩ := coreStep_cases e
  exact handleInterrupts_inv (clockCpu_midStep (inv_zeroTicks h) hu)

end Sys2Proof.Proofs
end

section
/-! PROOFS. The flags reach only the instructions that read them (R56). -/

namespace Sys2Proof.Proofs

open Sys2Proof.Machine Sys2Proof.Claims Sys2Proof.Laws

/-! ## Operations that do not read the flags -/

/-- Other flags in F. -/
def withF (s : State) (g : Flags) : State := { s with f := g }

/-- An operation that neither reads nor writes F. -/
def PassesF (op : State → State) : Prop := ∀ s g, op (withF s g) = withF (op s) g

theorem flatWrite_withF (s : State) (g : Flags) (a : Word) (v : Byte) :
    flatWrite (withF s g) a v = withF (flatWrite s a v) g := by
  unfold flatWrite
  split_ifs <;> rfl

theorem oamDmaByte_withF (p : Byte) (s : State) (g : Flags) (i : Nat) :
    oamDmaByte p (withF s g) i = withF (oamDmaByte p s i) g :=
  flatWrite_withF (peekRead s _).2 g _ _

theorem oamDma_withF (s : State) (g : Flags) (v : Byte) :
    oamDma (withF s g) v = withF (oamDma s v) g := by
  unfold oamDma
  generalize List.range 160 = l
  induction l generalizing s with
  | nil => rfl
  | cons i l ih => rw [List.foldl_cons, List.foldl_cons, oamDmaByte_withF, ih]

theorem busWrite_withF (s : State) (g : Flags) (a : Word) (v : Byte) :
    busWrite (withF s g) a v = withF (busWrite s a v) g := by
  unfold busWrite
  split_ifs
  · rfl
  · rfl
  · rfl
  · exact oamDma_withF s g v
  · exact flatWrite_withF s g a v

theorem memWrite_withF (s : State) (g : Flags) (a : Word) (v : Byte) :
    memWrite (withF s g) a v = withF (memWrite s a v) g :=
  busWrite_withF (accessCycle s) g a v

theorem flatRead_withF (s : State) (g : Flags) (a : Word) : flatRead (withF s g) a = flatRead s a := by
  unfold flatRead
  rfl

theorem busByte_withF (s : State) (g : Flags) (a : Word) : busByte (withF s g) a = busByte s a := by
  unfold busByte
  rw [flatRead_withF]
  rfl

theorem memRead_fst_withF (s : State) (g : Flags) (a : Word) :
    (memRead (withF s g) a).1 = (memRead s a).1 := busByte_withF (accessCycle s) g a

theorem memRead_snd_withF (s : State) (g : Flags) (a : Word) :
    (memRead (withF s g) a).2 = withF (memRead s a).2 g := by rfl

theorem internal_withF (s : State) (g : Flags) :
    internal (withF s g) = withF (internal s) g := rfl

theorem popByte_fst_withF (s : State) (g : Flags) :
    (popByte (withF s g)).1 = (popByte s).1 := memRead_fst_withF s g s.sp

theorem popByte_snd_withF (s : State) (g : Flags) :
    (popByte (withF s g)).2 = withF (popByte s).2 g := by rfl

theorem popWord_fst_withF (s : State) (g : Flags) :
    (popWord (withF s g)).1 = (popWord s).1 := by
  rw [popWord_fst, popWord_fst, popByte_snd_withF, popByte_fst_withF, popByte_fst_withF]

theorem pushByte_withF (s : State) (g : Flags) (v : Byte) :
    pushByte (withF s g) v = withF (pushByte s v) g :=
  memWrite_withF { s with sp := s.sp - 1 } g (s.sp - 1) v

theorem pushWord_withF (s : State) (g : Flags) (w : Word) :
    pushWord (withF s g) w = withF (pushWord s w) g := by
  rw [pushWord, pushByte_withF, pushByte_withF]
  rfl

/-! ## The shapes of the instructions outside the readers of R56 -/

/-- `op` does the same whatever F holds, F itself apart (R56). -/
def BlindToF (op : State → State) : Prop :=
  ∀ s g, { op (withF s g) with f := (op s).f } = op s

theorem PassesF.blind {op : State → State} (h : PassesF op) : BlindToF op := fun s g => by
  rw [h]
  rfl

/-- An operation that passes F on and then writes F from anything is blind to it: only F can differ. -/
theorem PassesF.blind_setF {op : State → State} (h : PassesF op) (flags : State → Flags) :
    BlindToF fun s => { op s with f := flags s } := fun s g => by
  show withF (op (withF s g)) (flags s) = withF (op s) (flags s)
  rw [h]
  rfl

theorem r8_withF (s : State) (g : Flags) (q : Reg8) : r8 (withF s g) q = r8 s q := by
  cases q <;> rfl

theorem r16_withF (s : State) (g : Flags) (p : Reg16) : r16 (withF s g) p = r16 s p := by
  cases p <;> rfl

theorem setR8_withF (s : State) (g : Flags) (q : Reg8) (v : Byte) :
    setR8 (withF s g) q v = withF (setR8 s q v) g := by cases q <;> rfl

theorem setR16_withF (s : State) (g : Flags) (p : Reg16) (v : Word) :
    setR16 (withF s g) p v = withF (setR16 s p v) g := by cases p <;> rfl

/-- A register is written from what the registers hold. -/
theorem setR8_passesF (q : Reg8) {v : State → Byte} (hv : ∀ s g, v (withF s g) = v s) :
    PassesF fun s => setR8 s q (v s) := fun s g => by
  show setR8 (withF s g) q (v (withF s g)) = _
  rw [hv, setR8_withF]

theorem loadRegAt_withF (s : State) (g : Flags) (q : Reg8) (a : Word) :
    loadRegAt (withF s g) q a = withF (loadRegAt s q a) g := by
  unfold loadRegAt
  rw [memRead_snd_withF, memRead_fst_withF, setR8_withF]

/-- A register is loaded from an address that the registers give. -/
theorem loadRegAt_passesF (q : Reg8) {a : State → Word} (ha : ∀ s g, a (withF s g) = a s) :
    PassesF fun s => loadRegAt s q (a s) := fun s g => by
  show loadRegAt (withF s g) q (a (withF s g)) = _
  rw [ha, loadRegAt_withF]

/-- A byte is stored that the registers give, at an address that they give. -/
theorem storeAt_passesF {a : State → Word} {v : State → Byte} (ha : ∀ s g, a (withF s g) = a s)
    (hv : ∀ s g, v (withF s g) = v s) : PassesF fun s => storeAt s (a s) (v s) := fun s g => by
  show memWrite (withF s g) (a (withF s g)) (v (withF s g)) = _
  rw [ha, hv, memWrite_withF]
  rfl

theorem modifyHL_passesF {m : State → Byte → Byte} (hm : ∀ s g, m (withF s g) = m s) :
    PassesF fun s => modifyHL s (m s) := fun s g => by
  show memWrite (memRead (withF s g) (regHL s)).2 (regHL s)
    (m (withF s g) (memRead (withF s g) (regHL s)).1) = _
  rw [hm, memRead_snd_withF, memRead_fst_withF, memWrite_withF]
  rfl

theorem storeSP_passesF (nn : Word) : PassesF (storeSP · nn) := fun s g => by
  show memWrite (memWrite (withF s g) nn (lo8 s.sp)) (nn + 1) (hi8 s.sp) = _
  rw [memWrite_withF, memWrite_withF]
  rfl

theorem loadAStep_passesF (d : Word) : PassesF (loadAStep · d) := fun s g => by
  show setHL (loadRegAt (withF s g) .a (regHL s)) (regHL s + d) = _
  rw [loadRegAt_withF]
  rfl

theorem storeAStep_passesF (d : Word) : PassesF (storeAStep · d) := fun s g => by
  show setHL (memWrite (withF s g) (regHL s) s.a) (regHL s + d) = _
  rw [memWrite_withF]
  rfl

theorem stepPair_passesF (p : Reg16) (d : Word) : PassesF (stepPair · p d) := fun s g => by
  show setR16 (internal (withF s g)) p (r16 (withF s g) p + d) = _
  rw [internal_withF, r16_withF, setR16_withF]
  rfl

theorem callTo_passesF (w : Word) : PassesF (callTo · w) := fun s g => by
  show { pushWord (withF (internal s) g) s.pc with pc := w } = _
  rw [pushWord_withF]
  rfl

theorem returnPop_passesF : PassesF returnPop := fun s g => by
  show { internal (withF (popWord s).2 g) with pc := (popWord (withF s g)).1 } = _
  rw [popWord_fst_withF]
  rfl

theorem pushPair_passesF {p : StkReg} (h : p ≠ .af) : PassesF (pushPair · p) := fun s g => by
  have hv : stk16 (withF s g) p = stk16 s p := by
    cases p with
    | af => exact absurd rfl h
    | _ => rfl
  show pushWord (withF (internal s) g) (stk16 (withF s g) p) = _
  rw [hv, pushWord_withF]
  rfl

/-- POP AF writes F from the byte it reads; the other pops pass F on. -/
theorem popPair_blind (p : StkReg) : BlindToF (popPair · p) := fun s g => by
  show { setStk16 (withF (popWord s).2 g) p (popWord (withF s g)).1 with
    f := (popPair s p).f } = popPair s p
  rw [popWord_fst_withF]
  cases p <;> rfl

theorem haltCpu_passesF : PassesF haltCpu := fun s g =>
  (apply_ite (withF · g) ((!s.ime && (pendingSource s).isSome) = true) { s with haltBug := true }
    { s with halted := true, pc := s.pc - 1 }).symm

theorem jumpTo_passesF (w : Word) : PassesF (jumpTo · w) := fun _ _ => rfl

theorem returnFromInterrupt_passesF : PassesF returnFromInterrupt := fun s g => by
  show { returnPop (withF s g) with eiPending := true } = _
  rw [returnPop_passesF]
  rfl

theorem jumpRel_passesF (e : Byte) : PassesF (jumpRel · e) := fun _ _ => rfl

theorem memRead_passesF {a : State → Word} (ha : ∀ s g, a (withF s g) = a s) :
    PassesF fun s => (memRead s (a s)).2 := fun s g => by
  show (memRead (withF s g) (a (withF s g))).2 = _
  rw [ha, memRead_snd_withF]

theorem id_passesF : PassesF fun s => s := fun _ _ => rfl

theorem addToHL_blind (p : Reg16) : BlindToF (addToHL · p) := by
  have hp : PassesF fun s => setHL (internal s) (regHL s + r16 s p) := fun s g => by
    show setHL (internal (withF s g)) (regHL s + r16 (withF s g) p) = _
    rw [r16_withF]
    rfl
  exact hp.blind_setF fun s => addHLFlags s.f (regHL s) (r16 s p)

theorem loadHLOffset_blind (e : Byte) : BlindToF (loadHLOffset · e) := by
  have hp : PassesF fun s => setHL (internal s) (s.sp + sext16 e) := fun _ _ => rfl
  exact hp.blind_setF fun s => spOffsetFlags (lo8 s.sp) e

theorem addToSP_blind (e : Byte) : BlindToF (addToSP · e) := by
  have hp : PassesF fun s => { internal (internal s) with sp := s.sp + sext16 e } := fun _ _ => rfl
  exact hp.blind_setF fun s => spOffsetFlags (lo8 s.sp) e

theorem cpl_blind : BlindToF fun s => { s with a := s.a ^^^ 0xFF, f := cplFlags s.f } := by
  have hp : PassesF fun s => { s with a := s.a ^^^ 0xFF } := fun _ _ => rfl
  exact hp.blind_setF fun s => cplFlags s.f

/-- Every ALU operation but ADC and SBC leaves the carry flag unread (R400 to R423). -/
theorem aluA_without_carry {o : AluOp} (h : o ≠ .adc ∧ o ≠ .sbc) (a b : Byte) (c c' : Bool) :
    aluA o a b c = aluA o a b c' := by
  cases o with
  | adc => exact absurd rfl h.1
  | sbc => exact absurd rfl h.2
  | _ => rfl

theorem aluWith_blind {o : AluOp} (h : o ≠ .adc ∧ o ≠ .sbc) {v : State → Byte}
    (hv : ∀ s g, v (withF s g) = v s) : BlindToF fun s => aluWith s o (v s) := by
  have hp : PassesF fun s => { s with a := aluA o s.a (v s) s.f.c } := fun s g => by
    show { withF s g with a := aluA o s.a (v (withF s g)) g.c } = _
    rw [hv, aluA_without_carry h _ _ g.c s.f.c]
    rfl
  exact hp.blind_setF fun s => aluFlags o s.a (v s) s.f.c

theorem aluMemHL_blind {o : AluOp} (h : o ≠ .adc ∧ o ≠ .sbc) : BlindToF (aluMemHL · o) := by
  have hp : PassesF fun s => { (memRead s (regHL s)).2 with
      a := aluA o s.a (memRead s (regHL s)).1 s.f.c } := fun s g => by
    show { (memRead (withF s g) (regHL s)).2 with
      a := aluA o s.a (memRead (withF s g) (regHL s)).1 g.c } = _
    rw [memRead_fst_withF, memRead_snd_withF, aluA_without_carry h _ _ g.c s.f.c]
    rfl
  exact hp.blind_setF fun s => aluFlags o s.a (memRead s (regHL s)).1 s.f.c

/-- Every shift but RL and RR leaves the carry flag unread (R626). -/
theorem shift_without_carry {o : RotOp} (h : o ≠ .rl ∧ o ≠ .rr) (v : Byte) (c c' : Bool) :
    shift o v c = shift o v c' := by
  cases o with
  | rl => exact absurd rfl h.1
  | rr => exact absurd rfl h.2
  | _ => rfl

theorem rotateA_blind {o : RotOp} (h : o ≠ .rl ∧ o ≠ .rr) : BlindToF (rotateA · o) := by
  have hp : PassesF fun s => { s with a := (shift o s.a s.f.c).1 } := fun s g => by
    show { withF s g with a := (shift o s.a g.c).1 } = _
    rw [shift_without_carry h _ g.c s.f.c]
    rfl
  exact hp.blind_setF fun s => accRotFlags (shift o s.a s.f.c)

theorem rotateReg_blind {o : RotOp} (h : o ≠ .rl ∧ o ≠ .rr) (q : Reg8) :
    BlindToF (rotateReg · o q) := by
  have hv : ∀ s g, (shift o (r8 (withF s g) q) (withF s g).f.c).1 = (shift o (r8 s q) s.f.c).1 :=
    fun s g => by rw [r8_withF, shift_without_carry h _ _ s.f.c]
  exact (setR8_passesF q hv).blind_setF fun s => shiftFlags (shift o (r8 s q) s.f.c)

theorem rotateMemHL_blind {o : RotOp} (h : o ≠ .rl ∧ o ≠ .rr) : BlindToF (rotateMemHL · o) := by
  have hm : ∀ s g, (fun v => (shift o v (withF s g).f.c).1) = fun v => (shift o v s.f.c).1 :=
    fun s g => funext fun v => by rw [shift_without_carry h _ _ s.f.c]
  exact (modifyHL_passesF (m := fun s v => (shift o v s.f.c).1) hm).blind_setF
    fun s => shiftFlags (shift o (memRead s (regHL s)).1 s.f.c)

/-! ## Which families read the flags -/

theorem readsFlags_aluReg {o : AluOp} {r : Reg8} (h : readsFlags (.aluReg o r) = false) :
    o ≠ .adc ∧ o ≠ .sbc := by
  revert h
  cases o <;> cases r <;> decide

theorem readsFlags_aluMem {o : AluOp} (h : readsFlags (.aluMem o) = false) :
    o ≠ .adc ∧ o ≠ .sbc := by
  revert h
  cases o <;> decide

theorem readsFlags_aluImm {o : AluOp} {n : Byte} (h : readsFlags (.aluImm o n) = false) :
    o ≠ .adc ∧ o ≠ .sbc := by
  cases o with
  | adc => cases h
  | sbc => cases h
  | _ => exact ⟨by decide, by decide⟩

theorem readsFlags_rotReg {o : RotOp} {r : Reg8} (h : readsFlags (.rotReg o r) = false) :
    o ≠ .rl ∧ o ≠ .rr := by
  revert h
  cases o <;> cases r <;> decide

theorem readsFlags_rotMem {o : RotOp} (h : readsFlags (.rotMem o) = false) :
    o ≠ .rl ∧ o ≠ .rr := by
  revert h
  cases o <;> decide

theorem readsFlags_push {p : StkReg} (h : readsFlags (.push p) = false) : p ≠ .af := by
  revert h
  cases p <;> decide

/-- The conclusion of the obligation, for one instruction. -/
def FlagBlind (i : Instr) : Prop :=
  ∀ (s : State) (g : Flags),
    ∃ t u, exec i s = .next t ∧ exec i { s with f := g } = .next u ∧ { u with f := t.f } = t

theorem flagBlind_of {i : Instr} {op : State → State} (hexec : ∀ s, exec i s = .next (op s))
    (hop : BlindToF op) : FlagBlind i :=
  fun s g => ⟨op s, op (withF s g), hexec s, hexec (withF s g), hop s g⟩

theorem flagBlind_passes {i : Instr} {op : State → State} (hexec : ∀ s, exec i s = .next (op s))
    (hop : PassesF op) : FlagBlind i := flagBlind_of hexec hop.blind

/-- A load of A from an address that the registers give. -/
theorem flagBlind_loadA {i : Instr} {a : State → Word}
    (hexec : ∀ s, exec i s = .next (loadRegAt s .a (a s))) (ha : ∀ s g, a (withF s g) = a s) :
    FlagBlind i := flagBlind_passes hexec (loadRegAt_passesF .a ha)

/-- A store of A at an address that the registers give. -/
theorem flagBlind_storeA {i : Instr} {a : State → Word}
    (hexec : ∀ s, exec i s = .next (storeAt s (a s) s.a)) (ha : ∀ s g, a (withF s g) = a s) :
    FlagBlind i := flagBlind_passes hexec (storeAt_passesF ha fun _ _ => rfl)

/-- Every family outside the readers of R56 passes F on, or writes it from anything at all. -/
theorem flagBlind_of_ran {i : Instr} {s t : State} (r : Ran i s t) (h : readsFlags i = false) :
    FlagBlind i := by
  have reg : ∀ q, ∀ s g, r8 (withF s g) q = r8 s q := fun q s g => r8_withF s g q
  cases r with
  | loadRegReg q r => exact flagBlind_passes (exec_loadRegReg q r) (setR8_passesF q (reg r))
  | loadImm q n => exact flagBlind_passes (exec_loadImm q n) (setR8_passesF q fun _ _ => rfl)
  | loadMem q => exact flagBlind_passes (exec_loadMem q) (loadRegAt_passesF q fun _ _ => rfl)
  | storeReg r => exact flagBlind_passes (exec_storeReg r) (storeAt_passesF (fun _ _ => rfl) (reg r))
  | loadPair p nn => exact flagBlind_passes (exec_loadPair p nn) fun s g => setR16_withF s g p nn
  | push p => exact flagBlind_passes (exec_push p) (pushPair_passesF (readsFlags_push h))
  | pop p => exact flagBlind_of (exec_pop p) (popPair_blind p)
  | aluReg o r => exact flagBlind_of (exec_aluReg o r) (aluWith_blind (readsFlags_aluReg h) (reg r))
  | aluMem o => exact flagBlind_of (exec_aluMem o) (aluMemHL_blind (readsFlags_aluMem h))
  | aluImm o n =>
    exact flagBlind_of (exec_aluImm o n) (aluWith_blind (readsFlags_aluImm h) fun _ _ => rfl)
  | incReg r =>
    have hv := fun s g => congrArg (· + 1) (reg r s g)
    exact flagBlind_of (exec_incReg r) ((setR8_passesF r hv).blind_setF _)
  | decReg r =>
    have hv := fun s g => congrArg (· - 1) (reg r s g)
    exact flagBlind_of (exec_decReg r) ((setR8_passesF r hv).blind_setF _)
  | addHL p => exact flagBlind_of (exec_addHL p) (addToHL_blind p)
  | incPair p => exact flagBlind_passes (exec_incPair p) (stepPair_passesF p 1)
  | decPair p => exact flagBlind_passes (exec_decPair p) (stepPair_passesF p (-1))
  | rotReg o r => exact flagBlind_of (exec_rotReg o r) (rotateReg_blind (readsFlags_rotReg h) r)
  | rotMem o => exact flagBlind_of (exec_rotMem o) (rotateMemHL_blind (readsFlags_rotMem h))
  | bitReg b r => exact flagBlind_of (exec_bitReg b r) (id_passesF.blind_setF _)
  | bitMem b => exact flagBlind_of (exec_bitMem b) ((memRead_passesF fun _ _ => rfl).blind_setF _)
  | resReg b r =>
    have hv := fun s g => congrArg (resBit · b) (reg r s g)
    exact flagBlind_passes (exec_resReg b r) (setR8_passesF r hv)
  | resMem b => exact flagBlind_passes (exec_resMem b) (modifyHL_passesF fun _ _ => rfl)
  | setReg b r =>
    have hv := fun s g => congrArg (setBit · b) (reg r s g)
    exact flagBlind_passes (exec_setReg b r) (setR8_passesF r hv)
  | setMem b => exact flagBlind_passes (exec_setMem b) (modifyHL_passesF fun _ _ => rfl)
  | jpCond k nn => cases k <;> cases h
  | jrCond k e => cases k <;> cases h
  | callCond k nn => cases k <;> cases h
  | retCond k => cases k <;> cases h
  | rst y => exact flagBlind_passes (exec_rst y) (callTo_passesF _)
  | illegal k => exact flagBlind_passes (exec_illegal k) fun _ _ => rfl
  | nop => exact flagBlind_passes (fun _ => rfl) id_passesF
  | ld_atBC_a => exact flagBlind_storeA (a := regBC) (fun _ => rfl) fun _ _ => rfl
  | rlca => exact flagBlind_of (fun _ => rfl) (rotateA_blind (o := .rlc) (by decide))
  | ld_at16_sp nn => exact flagBlind_passes (fun _ => rfl) (storeSP_passesF nn)
  | ld_a_atBC => exact flagBlind_loadA (a := regBC) (fun _ => rfl) fun _ _ => rfl
  | rrca => exact flagBlind_of (fun _ => rfl) (rotateA_blind (o := .rrc) (by decide))
  | stop => exact flagBlind_passes (fun _ => rfl) fun _ _ => rfl
  | ld_atDE_a => exact flagBlind_storeA (a := regDE) (fun _ => rfl) fun _ _ => rfl
  | rla => cases h
  | jr_r8 e => exact flagBlind_passes (fun _ => rfl) (jumpRel_passesF e)
  | ld_a_atDE => exact flagBlind_loadA (a := regDE) (fun _ => rfl) fun _ _ => rfl
  | rra => cases h
  | ld_atHLI_a => exact flagBlind_passes (fun _ => rfl) (storeAStep_passesF 1)
  | daa => cases h
  | ld_a_atHLI => exact flagBlind_passes (fun _ => rfl) (loadAStep_passesF 1)
  | cpl => exact flagBlind_of (fun _ => rfl) cpl_blind
  | ld_atHLD_a => exact flagBlind_passes (fun _ => rfl) (storeAStep_passesF (-1))
  | inc_atHL => exact flagBlind_of (fun _ => rfl) ((modifyHL_passesF fun _ _ => rfl).blind_setF _)
  | dec_atHL => exact flagBlind_of (fun _ => rfl) ((modifyHL_passesF fun _ _ => rfl).blind_setF _)
  | ld_atHL_d8 n =>
    exact flagBlind_passes (fun _ => rfl) (storeAt_passesF (fun _ _ => rfl) fun _ _ => rfl)
  | scf => exact flagBlind_of (fun _ => rfl) (id_passesF.blind_setF _)
  | ld_a_atHLD => exact flagBlind_passes (fun _ => rfl) (loadAStep_passesF (-1))
  | ccf => exact flagBlind_of (fun _ => rfl) (id_passesF.blind_setF _)
  | halt => exact flagBlind_passes (fun _ => rfl) haltCpu_passesF
  | jp_a16 nn => exact flagBlind_passes (fun _ => rfl) (jumpTo_passesF nn)
  | ret => exact flagBlind_passes (fun _ => rfl) returnPop_passesF
  | call_a16 nn => exact flagBlind_passes (fun _ => rfl) (callTo_passesF nn)
  | reti => exact flagBlind_passes (fun _ => rfl) returnFromInterrupt_passesF
  | ldh_at8_a n => exact flagBlind_storeA (a := fun _ => highPage n) (fun _ => rfl) fun _ _ => rfl
  | ldh_atC_a => exact flagBlind_storeA (a := fun s => highPage s.c) (fun _ => rfl) fun _ _ => rfl
  | add_sp_r8 e => exact flagBlind_of (fun _ => rfl) (addToSP_blind e)
  | jp_hl => exact flagBlind_passes (fun _ => rfl) fun _ _ => rfl
  | ld_at16_a nn => exact flagBlind_storeA (a := fun _ => nn) (fun _ => rfl) fun _ _ => rfl
  | ldh_a_at8 n => exact flagBlind_loadA (a := fun _ => highPage n) (fun _ => rfl) fun _ _ => rfl
  | ldh_a_atC => exact flagBlind_loadA (a := fun s => highPage s.c) (fun _ => rfl) fun _ _ => rfl
  | di => exact flagBlind_passes (fun _ => rfl) fun _ _ => rfl
  | ld_hl_sp_r8 e => exact flagBlind_of (fun _ => rfl) (loadHLOffset_blind e)
  | ld_sp_hl => exact flagBlind_passes (fun _ => rfl) fun _ _ => rfl
  | ld_a_at16 nn => exact flagBlind_loadA (a := fun _ => nn) (fun _ => rfl) fun _ _ => rfl
  | ei => exact flagBlind_passes (fun _ => rfl) fun _ _ => rfl
  | prefixCB n => cases h

/-- Settles O16: every instruction outside the readers is `FlagBlind`, family by family. -/
theorem flagsReachOnlyTheirReaders : Obligations.FlagsReachOnlyTheirReaders := by
  intro i s g h
  obtain ⟨_, _, r⟩ := exec_ran i s
  exact flagBlind_of_ran r h s g

end Sys2Proof.Proofs
end

section
/-! PROOFS. What Reset leaves (R66, R67, R1000). -/

namespace Sys2Proof.Proofs

open Sys2Proof.Machine Sys2Proof.Claims Sys2Proof.Laws

/-! ## The power-up table -/

/-- A bus write to the audio range leaves the core as it is (R104). -/
theorem busWrite_audio (s : State) (a : Word) (v : Byte) (h : Config.isAudio a.toNat = true) :
    busWrite s a v = s := by
  have hr : 0xFF10 ≤ a.toNat ∧ a.toNat ≤ 0xFF3F := by simpa [Config.isAudio] using h
  unfold busWrite
  rw [if_neg (by omega), if_neg (by omega), if_pos h]
  rfl

/-- A bus write to a byte of the Peripherals lists it in `io` (R102). -/
theorem busWrite_periph (s : State) (a : Word) (v : Byte)
    (h : Config.periphWritable a.toNat = true) :
    busWrite s a v = { s with io := Memory.write Config.powerUp s.io a.toNat v } := by
  have hp := h
  simp only [Config.periphWritable, Bool.and_eq_true, decide_eq_true_eq, Bool.not_eq_true'] at hp
  obtain ⟨⟨hlo, hhi, hif, hdma, -⟩, ha⟩ := hp
  have hne : ∀ w : Word, a.toNat ≠ w.toNat → a ≠ w := fun w hw e => hw (congrArg _ e)
  have hend : a.toNat ≠ 0xFFFF := by omega
  unfold busWrite
  rw [if_neg (by omega), if_neg (by omega), if_neg (by simp [ha]), if_neg (hne 0xFF46 hdma)]
  unfold flatWrite
  rw [if_neg (hne 0xFFFF hend), if_neg (hne 0xFF0F hif), if_pos h]

/-- What rows of the power-up table leave of the Peripherals' bytes. -/
def seedIo (rows : List (Word × Byte)) (io : List Host.Cell) : List Host.Cell :=
  rows.foldl (fun m row => Memory.write Config.powerUp m row.1.toNat row.2) io

/-- Power-up rows of the Peripherals all go to `io`. -/
theorem foldl_busWrite_periph (rows : List (Word × Byte)) (s : State)
    (h : ∀ row ∈ rows, Config.periphWritable row.1.toNat = true) :
    rows.foldl (fun t row => busWrite t row.1 row.2) s =
      { s with io := seedIo rows s.io } := by
  induction rows generalizing s with
  | nil => rfl
  | cons row rows ih =>
    rw [List.foldl_cons, busWrite_periph s _ _ (h row List.mem_cons_self),
      ih _ fun r hr => h r (List.mem_cons_of_mem _ hr)]
    rfl

/-- Audio rows leave the core as it is. -/
theorem foldl_busWrite_audio (rows : List (Word × Byte)) (s : State)
    (h : ∀ row ∈ rows, Config.isAudio row.1.toNat = true) :
    rows.foldl (fun t row => busWrite t row.1 row.2) s = s := by
  induction rows with
  | nil => rfl
  | cons row rows ih =>
    rw [List.foldl_cons, busWrite_audio s _ _ (h row List.mem_cons_self)]
    exact ih fun r hr => h r (List.mem_cons_of_mem _ hr)

/-- The power-up rows that the Peripherals hold. -/
def powerUpPeriph : List (Word × Byte) := Config.powerUpCore.dropLast

/-- The table's audio rows leave no trace, its last row is IE's, and the rest are the Peripherals'
(R66). -/
theorem seedRegisters_eq (s : State) :
    seedRegisters s = { s with ie := 0x00, io := seedIo powerUpPeriph s.io } := by
  have hcore : Config.powerUpCore.drop 3 = powerUpPeriph.drop 3 ++ [(0xFFFF, 0x00)] := rfl
  have h3 : ∀ row ∈ Config.powerUpCore.take 3, Config.periphWritable row.1.toNat = true := by
    simp [Config.powerUpCore, Config.periphWritable, Config.isAudio]
  have h9 : ∀ row ∈ powerUpPeriph.drop 3, Config.periphWritable row.1.toNat = true := by
    simp [powerUpPeriph, Config.powerUpCore, Config.periphWritable, Config.isAudio]
  have haudio : ∀ row ∈ Config.powerUpAudio, Config.isAudio row.1.toNat = true := by
    simp [Config.powerUpAudio, Config.isAudio]
  unfold seedRegisters Config.powerUpTable
  rw [List.foldl_append, List.foldl_append, foldl_busWrite_audio _ _ haudio, hcore,
    List.foldl_append, foldl_busWrite_periph _ _ h3, foldl_busWrite_periph _ _ h9]
  rfl

/-- The zeroed array lists the four bytes of the Peripherals that power up at another value. -/
theorem zeroFlat_io (s : State) :
    (zeroFlat s).io = [(0xFF40, 0x00), (0xFF47, 0x00), (0xFF48, 0x00), (0xFF49, 0x00)] := by
  show Config.periphAddrs.foldl (fun m a => Memory.write Config.powerUp m a 0x00) [] = _
  decide

/-- The power-up rows put those four bytes back, so none is listed. -/
theorem seeded_io (s : State) : seedIo powerUpPeriph (zeroFlat s).io = [] := by
  rw [zeroFlat_io]
  decide

/-! ## The reset state -/

/-- Reset is the CPU reset, with nothing listed in the flat array (R1000). -/
theorem hostReset_eq {s : State} (h : s.fault = none) :
    hostReset s = { resetCpu s with ie := 0x00, iflag := 0x00, mem := [], io := [] } := by
  rw [hostReset, if_neg (by simp [h]), seedRegisters_eq, seeded_io]
  rfl

/-- `Config.powerUp` is the power-up map of R66, over numbers. -/
theorem powerUp_toNat (x : Word) : Config.powerUp x.toNat = powerUpByte x := by
  have h0 : x.toNat = 0xFF40 ↔ x = 0xFF40 := BitVec.toNat_inj (y := 0xFF40)
  have h7 : x.toNat = 0xFF47 ↔ x = 0xFF47 := BitVec.toNat_inj (y := 0xFF47)
  have h8 : x.toNat = 0xFF48 ↔ x = 0xFF48 := BitVec.toNat_inj (y := 0xFF48)
  have h9 : x.toNat = 0xFF49 ↔ x = 0xFF49 := BitVec.toNat_inj (y := 0xFF49)
  unfold Config.powerUp powerUpByte
  simp only [h0, h7, h8, h9, ite_or]

/-- Outside the Peripherals' addresses the power-up value is zero (R66). -/
theorem powerUpByte_of_not_periph {x : Word} (h : Config.periphWritable x.toNat = false) :
    powerUpByte x = 0x00 := by
  unfold powerUpByte
  split_ifs with h0 h7 h8 h9
  · subst h0; exact absurd h (by decide)
  · subst h7; exact absurd h (by decide)
  · subst h8; exact absurd h (by decide)
  · subst h9; exact absurd h (by decide)
  · rfl

/-- A flat array in which nothing is listed reads as its power-up values. -/
theorem flatRead_nothing_listed {s : State} (hie : s.ie = 0x00) (hif : s.iflag = 0x00)
    (hm : s.mem = []) (hio : s.io = []) (x : Word) : flatRead s x = powerUpByte x := by
  unfold flatRead
  rw [hie, hif, hm, hio]
  split_ifs with hend hfl hp
  · subst hend; rfl
  · subst hfl; rfl
  · exact powerUp_toNat x
  · exact (powerUpByte_of_not_periph (by simpa using hp)).symm

/-- The register pairs of the CPU reset (R67). -/
theorem resetCpu_pairs (s : State) :
    regAF (resetCpu s) = 0x01B0 ∧ regBC (resetCpu s) = 0x0013 ∧ regDE (resetCpu s) = 0x00D8 ∧
      regHL (resetCpu s) = 0x014D := by
  show mkWord 0x01 (flagsByte Flags.reset) = 0x01B0 ∧ mkWord 0x00 0x13 = 0x0013 ∧
    mkWord 0x00 0xD8 = 0x00D8 ∧ mkWord 0x01 0x4D = 0x014D
  decide

/-- Settles O21: Reset is the CPU reset over a flat array that lists nothing (`hostReset_eq`). -/
theorem resetValues : Obligations.ResetValues := by
  refine ⟨hostReset_eq rfl, fun s hf => ?_⟩
  obtain ⟨haf, hbc, hde, hhl⟩ := resetCpu_pairs s
  rw [hostReset_eq hf]
  exact ⟨haf, hbc, hde, hhl, rfl, rfl, rfl, rfl, rfl, rfl, rfl, hf, rfl, rfl, rfl,
    fun x _ _ => flatRead_nothing_listed rfl rfl rfl rfl x⟩

theorem cartInv_absent : CartInv Cart.absent :=
  ⟨empty_wf _, empty_within _, by decide, empty_wf _, empty_within _, by decide,
    fun _ => ⟨rfl, rfl⟩, by decide⟩

/-- Settles O18: the reset state lists no byte, and nothing waits or is pending in it. -/
theorem resetMeetsInv : Obligations.ResetMeetsInv :=
  ⟨empty_wf _, empty_within _, empty_wf _, empty_within _, cartInv_absent, rfl,
    fun ⟨h, _⟩ => Bool.false_ne_true h, fun _ => rfl⟩

end Sys2Proof.Proofs
end

section
/-! PROOFS. No step changes the ROM image, the geometry of the cartridge or its variant (R102, R140,
R142): a bus write can change the banking fields, the external RAM and the clock alone. -/

namespace Sys2Proof.Proofs

open Sys2Proof.Machine Sys2Proof.Claims Sys2Proof.Laws

/-- Two cartridges with the same ROM image, RAM length and variant. -/
structure SameImage (k k' : Cart) : Prop where
  rom : k'.rom = k.rom
  romLen : k'.romLen = k.romLen
  ramLen : k'.ramLen = k.ramLen
  variant : k'.variant = k.variant

theorem SameImage.refl (k : Cart) : SameImage k k := ⟨rfl, rfl, rfl, rfl⟩

theorem SameImage.trans {k l m : Cart} (h : SameImage k l) (h' : SameImage l m) : SameImage k m :=
  ⟨h'.rom.trans h.rom, h'.romLen.trans h.romLen, h'.ramLen.trans h.ramLen,
    h'.variant.trans h.variant⟩

/-! ## The cartridge's own operations -/

theorem writeExternal_sameImage (k : Cart) (a : Nat) (v : Byte) :
    SameImage k (writeExternal k a v) := by
  unfold writeExternal
  split
  · exact .refl k
  · exact ⟨rfl, rfl, rfl, rfl⟩
  · exact ⟨rfl, rfl, rfl, rfl⟩

theorem writeMbc1_sameImage (k : Cart) (a : Nat) (v : Byte) : SameImage k (writeMbc1 k a v) := by
  unfold writeMbc1
  split_ifs <;> exact ⟨rfl, rfl, rfl, rfl⟩

theorem writeMbc3_sameImage (k : Cart) (a : Nat) (v : Byte) (now : Rtc) :
    SameImage k (writeMbc3 k a v now) := by
  unfold writeMbc3
  split_ifs <;> exact ⟨rfl, rfl, rfl, rfl⟩

theorem writeToRom_sameImage (k : Cart) (a : Nat) (v : Byte) (now : Rtc) :
    SameImage k (writeToRom k a v now) := by
  unfold writeToRom
  split
  · exact .refl k
  · exact .refl k
  · exact writeMbc1_sameImage k a v
  · exact writeMbc3_sameImage k a v now

theorem busWrite_sameImage (s : State) (a : Word) (v : Byte) :
    SameImage s.cart (busWrite s a v).cart := by
  rw [busWrite_cart]
  split_ifs
  · exact writeToRom_sameImage _ _ _ _
  · exact writeExternal_sameImage _ _ _
  · exact .refl _

/-! ## Operations that keep the image -/

/-- From `s` to `t` the cartridge's image, RAM length and variant stay. -/
structure KeepsImage (s t : State) : Prop where
  image : SameImage s.cart t.cart

theorem KeepsImage.of_cart {s t : State} (h : t.cart = s.cart) : KeepsImage s t :=
  ⟨h ▸ .refl _⟩

theorem KeepsImage.refl (s : State) : KeepsImage s s := ⟨.refl _⟩

theorem KeepsImage.trans {s t u : State} (h : KeepsImage s t) (k : KeepsImage t u) :
    KeepsImage s u := ⟨h.image.trans k.image⟩

/-- M-cycles without a store keep the cartridge. -/
theorem keepsImage_of_waits {n : Nat} {s t : State} (h : Waits n s t) : KeepsImage s t :=
  .of_cart h.cart

/-- Registers are no part of the cartridge. -/
theorem KeepsImage.regs {s t u : State} (h : KeepsImage s t) (k : RegsOnly t u) :
    KeepsImage s u := h.trans (keepsImage_of_waits (regsOnly_waits k))

theorem keepsImage_of_regsOnly {s t : State} (h : RegsOnly s t) : KeepsImage s t :=
  (KeepsImage.refl s).regs h

theorem KeepsImage.withF {s t : State} (h : KeepsImage s t) (g : Flags) :
    KeepsImage s { t with f := g } := h.regs rfl

theorem KeepsImage.withSp {s t : State} (h : KeepsImage s t) (w : Word) :
    KeepsImage s { t with sp := w } := h.regs rfl

theorem KeepsImage.withPc {s t : State} (h : KeepsImage s t) (w : Word) :
    KeepsImage s { t with pc := w } := h.regs rfl

theorem KeepsImage.withIflagPc {s t : State} (h : KeepsImage s t) (v : Byte) (w : Word) :
    KeepsImage s { t with iflag := v, pc := w } := h.trans (.of_cart rfl)

theorem KeepsImage.withHL {s t : State} (h : KeepsImage s t) (w : Word) :
    KeepsImage s (setHL t w) := h.regs rfl

/-- A conditional form keeps the image when both outcomes do. -/
theorem KeepsImage.ite {s t u : State} (c : Bool) (h : KeepsImage s t) (k : KeepsImage s u) :
    KeepsImage s (if c then t else u) := by
  cases c
  · exact k
  · exact h

theorem setR8_keepsImage (s : State) (q : Reg8) (v : Byte) : KeepsImage s (setR8 s q v) :=
  .of_cart (setR8_cart s q v)

theorem internal_keepsImage (s : State) : KeepsImage s (internal s) :=
  .of_cart (internal_cart s)

theorem memRead_keepsImage (s : State) (a : Word) : KeepsImage s (memRead s a).2 :=
  .of_cart (memRead_cart s a)

theorem popWord_keepsImage (s : State) : KeepsImage s (popWord s).2 :=
  keepsImage_of_waits (popWord_waits s)

theorem memWrite_keepsImage (s : State) (a : Word) (v : Byte) : KeepsImage s (memWrite s a v) :=
  ⟨busWrite_sameImage (accessCycle s) a v⟩

theorem pushByte_keepsImage (s : State) (v : Byte) : KeepsImage s (pushByte s v) :=
  ((KeepsImage.refl s).withSp (s.sp - 1)).trans (memWrite_keepsImage _ _ v)

theorem pushWord_keepsImage (s : State) (w : Word) : KeepsImage s (pushWord s w) :=
  (pushByte_keepsImage s _).trans (pushByte_keepsImage _ _)

theorem modifyHL_keepsImage (s : State) (g : Byte → Byte) : KeepsImage s (modifyHL s g) :=
  (memRead_keepsImage s _).trans (memWrite_keepsImage _ _ _)

theorem loadRegAt_keepsImage (s : State) (q : Reg8) (a : Word) : KeepsImage s (loadRegAt s q a) :=
  (memRead_keepsImage s a).regs (setR8_regsOnly _ q _)

theorem stepPair_keepsImage (s : State) (p : Reg16) (d : Word) : KeepsImage s (stepPair s p d) :=
  (internal_keepsImage s).regs (setR16_regsOnly _ p _)

theorem rotateMemHL_keepsImage (s : State) (o : RotOp) : KeepsImage s (rotateMemHL s o) :=
  (modifyHL_keepsImage s _).withF _

theorem jumpTo_keepsImage (s : State) (w : Word) : KeepsImage s (jumpTo s w) :=
  (internal_keepsImage s).withPc w

theorem callTo_keepsImage (s : State) (w : Word) : KeepsImage s (callTo s w) :=
  ((internal_keepsImage s).trans (pushWord_keepsImage _ _)).withPc w

theorem returnPop_keepsImage (s : State) : KeepsImage s (returnPop s) :=
  ((popWord_keepsImage s).trans (internal_keepsImage _)).withPc _

theorem jumpIf_keepsImage (s : State) (k : Cond) (w : Word) : KeepsImage s (jumpIf s k w) :=
  .ite _ (jumpTo_keepsImage s w) (.refl s)

theorem jumpRelIf_keepsImage (s : State) (k : Cond) (e : Byte) : KeepsImage s (jumpRelIf s k e) :=
  .ite _ (jumpTo_keepsImage s _) (.refl s)

theorem callIf_keepsImage (s : State) (k : Cond) (w : Word) : KeepsImage s (callIf s k w) :=
  .ite _ (callTo_keepsImage s w) (.refl s)

theorem returnIf_keepsImage (s : State) (k : Cond) : KeepsImage s (returnIf s k) :=
  .ite _ ((internal_keepsImage s).trans (returnPop_keepsImage _)) (internal_keepsImage s)

theorem haltCpu_keepsImage (s : State) : KeepsImage s (haltCpu s) := by
  rcases haltCpu_cases s with e | e
  · rw [e]
    exact .of_cart rfl
  · rw [e]
    exact .of_cart rfl

theorem secondary_keepsImage (s : State) (n : Byte) : KeepsImage s (secondary s n) := by
  unfold secondary secondaryGroup
  split
  · exact (setR8_keepsImage s _ _).withF _
  · exact rotateMemHL_keepsImage s _
  · exact (KeepsImage.refl s).withF _
  · exact (memRead_keepsImage s _).withF _
  · exact setR8_keepsImage s _ _
  · exact modifyHL_keepsImage s _
  · exact setR8_keepsImage s _ _
  · exact modifyHL_keepsImage s _

/-! ## Through a step -/

/-- Every instruction keeps the image: what it stores goes through a bus write. -/
theorem keepsImage_of_ran {i : Instr} {s t : State} (h : Ran i s t) : KeepsImage s t := by
  cases h with
  | loadRegReg q | loadImm q | resReg _ q | setReg _ q => exact setR8_keepsImage s q _
  | incReg q | decReg q | rotReg _ q => exact (setR8_keepsImage s q _).withF _
  | loadPair p nn => exact keepsImage_of_regsOnly (setR16_regsOnly s p nn)
  | incPair p | decPair p => exact stepPair_keepsImage s p _
  | push p => exact (internal_keepsImage s).trans (pushWord_keepsImage _ _)
  | pop p => exact (popWord_keepsImage s).regs (setStk16_regsOnly _ p _)
  | loadMem | ld_a_atBC | ld_a_atDE | ldh_a_at8 | ldh_a_atC | ld_a_at16 =>
    exact loadRegAt_keepsImage s _ _
  | ld_a_atHLI | ld_a_atHLD => exact (loadRegAt_keepsImage s .a _).withHL _
  | storeReg | ld_atBC_a | ld_atDE_a | ld_atHL_d8 | ldh_at8_a | ldh_atC_a | ld_at16_a =>
    exact memWrite_keepsImage s _ _
  | ld_atHLI_a | ld_atHLD_a => exact (memWrite_keepsImage s _ s.a).withHL _
  | ld_at16_sp => exact (memWrite_keepsImage s _ _).trans (memWrite_keepsImage _ _ _)
  | resMem | setMem => exact modifyHL_keepsImage s _
  | inc_atHL | dec_atHL => exact (modifyHL_keepsImage s _).withF _
  | rotMem o => exact rotateMemHL_keepsImage s o
  | aluMem => exact (memRead_keepsImage s _).regs rfl
  | bitMem => exact (memRead_keepsImage s _).withF _
  | addHL | ld_hl_sp_r8 => exact ((internal_keepsImage s).withHL _).withF _
  | ld_sp_hl => exact (internal_keepsImage s).regs rfl
  | add_sp_r8 => exact ((internal_keepsImage s).trans (internal_keepsImage _)).regs rfl
  | jp_a16 | jr_r8 => exact jumpTo_keepsImage s _
  | jpCond k nn => exact jumpIf_keepsImage s k nn
  | jrCond k e => exact jumpRelIf_keepsImage s k e
  | call_a16 | rst => exact callTo_keepsImage s _
  | callCond k nn => exact callIf_keepsImage s k nn
  | ret => exact returnPop_keepsImage s
  | reti => exact (returnPop_keepsImage s).trans (.of_cart rfl)
  | retCond k => exact returnIf_keepsImage s k
  | halt => exact haltCpu_keepsImage s
  | prefixCB n => exact secondary_keepsImage s n
  | aluReg | aluImm | bitReg | rlca | rrca | rla | rra | daa | cpl | scf | ccf | jp_hl | nop =>
    exact keepsImage_of_regsOnly rfl
  | illegal | stop | di | ei => exact .of_cart rfl

theorem fetchOperands_cart (s : State) (m : Format) : (fetchOperands s m).2.cart = s.cart := by
  cases m with
  | p1 | stop => rfl
  | p2 | cb => exact fetchByte_cart s
  | p3 => exact (fetchByte_cart _).trans (fetchByte_cart s)

theorem fetchInstr_cart (s : State) : (fetchInstr s).2.cart = s.cart :=
  (fetchOperands_cart _ _).trans (fetchOpcode_cart s)

theorem clockCpu_keepsImage {s t : State} (h : clockCpu s = .next t) : KeepsImage s t := by
  rcases clockCpu_cases h with ⟨-, rfl⟩ | ⟨-, -, rfl⟩ | ⟨-, -, -, r⟩
  · exact .of_cart rfl
  · exact memRead_keepsImage s s.pc
  · exact (KeepsImage.of_cart (fetchInstr_cart s)).trans (keepsImage_of_ran r)

/-- An interrupt entry reaches the cartridge through the two bus writes that push PC (R921). -/
theorem dispatch_keepsImage (s : State) (k : Fin 5) : KeepsImage s (dispatch s k) := by
  have hoff : KeepsImage s { s with ime := false, eiPending := false } := .of_cart rfl
  have hwait := (hoff.trans (internal_keepsImage _)).trans (internal_keepsImage _)
  have hpush := (hwait.trans (pushWord_keepsImage _ s.pc)).trans (internal_keepsImage _)
  exact hpush.withIflagPc _ _

theorem serviceInterrupts_keepsImage (s : State) : KeepsImage s (serviceInterrupts s) := by
  unfold serviceInterrupts
  split
  · exact .of_cart rfl
  · split
    · exact ⟨(dispatch_keepsImage (wakeFromHalt s) _).image⟩
    · exact .of_cart rfl

theorem handleInterrupts_keepsImage (s : State) : KeepsImage s (handleInterrupts s) := by
  unfold handleInterrupts
  split_ifs
  · exact .of_cart rfl
  · exact .of_cart rfl
  · exact ⟨(serviceInterrupts_keepsImage { s with stopped := false }).image⟩

/-- Settles O17: ClockCpu and HandleInterrupts reach the cartridge through bus writes alone, and a bus
write keeps the image. -/
theorem romAndVariantNeverChange : Obligations.RomAndVariantNeverChange := by
  intro s t h
  obtain ⟨u, hu, rfl⟩ := coreStep_cases h
  obtain ⟨hrom, hlen, hram, hvar⟩ :=
    ((clockCpu_keepsImage hu).trans (handleInterrupts_keepsImage u)).image
  exact ⟨hrom, hlen, hram, hvar⟩

end Sys2Proof.Proofs
end

section
/-! PROOFS. The bus by its regions: which storage a read and a write of each one reach (R101, R102), and
what follows for the addresses that no banking stands behind. -/

namespace Sys2Proof.Proofs

open Sys2Proof.Machine Sys2Proof.Claims Sys2Proof.Laws

/-! ## One equation for each region -/

theorem inExternal_iff {a : Word} : inExternal a = true ↔ 0xA000 ≤ a.toNat ∧ a.toNat < 0xC000 := by
  simp [inExternal]

theorem busByte_rom (s : State) {a : Word} (h : a.toNat < 0x4000) :
    busByte s a = readRom s.cart a.toNat := by
  rw [busByte, if_pos h]

theorem busByte_upperRom (s : State) {a : Word} (h : 0x4000 ≤ a.toNat) (h' : a.toNat < 0x8000) :
    busByte s a = readUpperRom s.cart a.toNat := by
  rw [busByte, if_neg (by omega), if_pos h']

theorem busByte_external (s : State) {a : Word} (h : inExternal a = true) :
    busByte s a = readExternal s.cart a.toNat := by
  have hr := inExternal_iff.mp h
  rw [busByte, if_neg (by omega), if_neg (by omega), if_pos hr]

theorem busByte_audio (s : State) {a : Word} (h : Config.isAudio a.toNat = true) :
    busByte s a = Config.periphRead s.draws a := by
  have hr : 0xFF10 ≤ a.toNat ∧ a.toNat ≤ 0xFF3F := by simpa [Config.isAudio] using h
  have hne : a ≠ 0xFF4D := by
    rintro rfl
    exact absurd h (by decide)
  rw [busByte, if_neg (by omega), if_neg (by omega), if_neg (by omega), if_neg hne, if_pos h]

theorem busByte_flat (s : State) {a : Word} (h : 0x8000 ≤ a.toNat) (hx : inExternal a = false)
    (hp : Config.isAudio a.toNat = false) (hne : a ≠ 0xFF4D) : busByte s a = flatRead s a := by
  have hr : ¬(0xA000 ≤ a.toNat ∧ a.toNat < 0xC000) := by simpa [inExternal] using hx
  rw [busByte, if_neg (by omega), if_neg (by omega), if_neg hr, if_neg hne, hp,
    if_neg Bool.false_ne_true]

theorem busWrite_control (s : State) {a : Word} (v : Byte) (h : a.toNat < 0x8000) :
    busWrite s a v = cartControl s a v := by
  rw [busWrite, if_pos h]

theorem busWrite_external (s : State) {a : Word} (v : Byte) (h : inExternal a = true) :
    busWrite s a v = { s with cart := writeExternal s.cart a.toNat v } := by
  have hr := inExternal_iff.mp h
  rw [busWrite, if_neg (by omega), if_pos hr]

/-- A store to the array is read back over the bus, 0xFF4D apart (R101, R102). -/
theorem busByte_busWrite_flat (s : State) {a : Word} (v : Byte) (h : storesFlat a = true)
    (hne : a ≠ 0xFF4D) : busByte (busWrite s a v) a = v := by
  have hs := h
  simp only [storesFlat, Bool.and_eq_true, decide_eq_true_eq, Bool.not_eq_true'] at hs
  obtain ⟨⟨⟨hlo, hx⟩, hp⟩, -⟩ := hs
  rw [busByte_flat _ hlo hx hp hne]
  exact busWrite_stored s a v h

theorem busByte_ie (s : State) : busByte s 0xFFFF = s.ie :=
  busByte_flat s (by decide) (by decide) (by decide) (by decide)

theorem busByte_iflag (s : State) : busByte s 0xFF0F = s.iflag :=
  busByte_flat s (by decide) (by decide) (by decide) (by decide)

/-- Settles O60: the regions of R101 one by one; a MemWrite is a bus write after its tick. -/
theorem busReadsRomAndFlatArray : Obligations.BusReadsRomAndFlatArray := by
  intro s a v
  refine ⟨fun h => busByte_rom s h, fun h h' => busByte_audio s ?_, busByte_flat s, busByte_ie s,
    busByte_iflag s, fun h hne => ⟨?_, ?_⟩⟩
  · simp [Config.isAudio, h, h']
  · exact busByte_busWrite_flat s v h hne
  · exact busByte_busWrite_flat (accessCycle s) v h hne

/-! ## The two constant registers -/

theorem busByte_gbc (s : State) : busByte s 0xFF4D = 0xFF := by
  simp [busByte]

theorem busWrite_dma (s : State) (v : Byte) : busWrite s 0xFF46 v = oamDma s v := by
  unfold busWrite
  rfl

/-- No byte is ever listed at 0xFF46, so it reads as unlisted (R105). -/
theorem busByte_dma_of_storageInv {s : State} (h : StorageInv s) : busByte s 0xFF46 = 0x00 := by
  have hflat : busByte s 0xFF46 = flatRead s 0xFF46 :=
    busByte_flat s (by decide) (by decide) (by decide) (by decide)
  have hmem : flatRead s 0xFF46 = Memory.read zeroByte s.mem 0xFF46 := by
    simp [flatRead, Config.periphWritable]
  rw [hflat, hmem]
  exact read_outside zeroByte memHome s.mem 0xFF46 h.mem_within (by decide)

/-- Settles O27: 0xFF4D is caught before the array, and the invariant's home for `mem` leaves 0xFF46
out. -/
theorem constantRegistersRead : Obligations.ConstantRegistersRead := by
  intro s v
  refine ⟨busByte_gbc s, busByte_gbc _, busWrite_stored s 0xFF4D v (by decide), busWrite_dma s v,
    fun h => ⟨?_, ?_⟩⟩
  · exact busByte_dma_of_storageInv (storageInv_of_inv h)
  · exact busByte_dma_of_storageInv (busWrite_storageInv s 0xFF46 v (storageInv_of_inv h))

/-! ## The store that starts OAM DMA -/

/-- Outside OAM the DMA store reaches no byte. -/
theorem storeReach_dma {x : Word} (h : x.toNat < 0xFE00 ∨ 0xFEA0 ≤ x.toNat) :
    storeReach 0xFF46 x = false := by
  have hx : ¬(0xFE00 ≤ x.toNat ∧ x.toNat < 0xFEA0) := by omega
  simp [storeReach, inExternal, Config.isAudio, hx]

/-- An address of OAM is the DMA target of its index. -/
theorem eq_dmaTarget {x : Word} (h : 0xFE00 ≤ x.toNat) (h' : x.toNat < 0xFEA0) :
    x = 0xFE00 + BitVec.ofNat 16 (x.toNat - 0xFE00) := by
  refine BitVec.eq_of_toNat_eq ?_
  rw [dmaTarget_toNat _ (by omega)]
  omega

/-- Settles O28: the instruction is one store cycle at 0xFF46; page 0xFE is OAM's own, so there each
byte is copied onto itself. -/
theorem oamDmaStoreCopiesThePage : Obligations.OamDmaStoreCopiesThePage := by
  intro s
  have c : StoreCycle s (memWrite s 0xFF46 s.a) 0xFF46 s.a := memWrite_store s 0xFF46 s.a
  have outside : ∀ x, periphOwned x = false → x.toNat < 0xFE00 ∨ 0xFEA0 ≤ x.toNat →
      busByte (memWrite s 0xFF46 s.a) x = busByte s x :=
    fun x hx hr => c.frame x hx (storeReach_dma hr)
  refine ⟨memWrite s 0xFF46 s.a, rfl, c.dma rfl, outside, fun ha x hx => ?_, c.ticks, c.cart, c.regs,
    c.hidden⟩
  by_cases hr : x.toNat < 0xFE00 ∨ 0xFEA0 ≤ x.toNat
  · exact outside x hx hr
  · have hx' := eq_dmaTarget (x := x) (by omega) (by omega)
    have hpage : mkWord s.a 0 = 0xFE00 := by
      rw [ha]
      decide
    have copied := c.dma rfl (x.toNat - 0xFE00) (by omega)
    rw [hpage, ← hx'] at copied
    exact copied hx

end Sys2Proof.Proofs
end

section
/-! PROOFS. The cartridge: its banking fields and the upper window, the external window, and what a load
leaves of the save bytes (20_memory.md section 4). -/

namespace Sys2Proof.Proofs

open Sys2Proof.Machine Sys2Proof.Claims Sys2Proof.Laws

/-! ## The upper window -/

/-- The upper window shows the selected bank, reduced modulo the image's banks (R141, R144). -/
theorem busByte_upper_windowByte (s : State) {a : Word} (h : 0x4000 ≤ a.toNat)
    (h' : a.toNat < 0x8000) :
    busByte s a = windowByte s.cart (selectedBank s.cart) a.toNat :=
  busByte_upperRom s h h'

/-- The MBC1's bank is off 0x00, 0x20, 0x40 and 0x60, the numbers with five low zero bits (R151). -/
theorem mbc1Bank_eq (k : Cart) :
    mbc1Bank k =
      if (32 * k.romHigh.toNat + k.romLow.toNat) % 32 = 0 then
        32 * k.romHigh.toNat + k.romLow.toNat + 1
      else 32 * k.romHigh.toNat + k.romLow.toNat := by
  have hhigh := k.romHigh.isLt
  have hlow := k.romLow.isLt
  simp only [mbc1Bank]
  split_ifs <;> omega

/-! ## The control writes -/

/-- A control write takes the variant's rule, with the next free value as the clock (R102). -/
theorem busWrite_control_cart (s : State) {a : Word} (v : Byte) (h : a.toNat < 0x8000) :
    (busWrite s a v).cart = writeToRom s.cart a.toNat v (Config.rtcNow s.draws) := by
  rw [busWrite_control s v h]
  rfl

/-- RAM is enabled by 0x0A, and under LOW_NIBBLE_A by any value with that low nibble (R147). -/
theorem enablesRam_eq (v : Byte) :
    enablesRam v =
      (decide (v = 0x0A) || (decide (v.toNat % 16 = 0x0A) && Config.ramEnableLowNibble)) := by
  have hlow : (v &&& 0x0F).toNat = v.toNat % 16 := by
    rw [BitVec.toNat_and]
    exact Nat.and_two_pow_sub_one_eq_mod v.toNat 4
  have hnibble : ((v &&& 0x0F) == 0x0A) = decide (v.toNat % 16 = 0x0A) := by
    rw [← hlow, Bool.eq_iff_iff, beq_iff_eq, decide_eq_true_iff, ← BitVec.toNat_inj]
    rfl
  rw [enablesRam, hnibble]
  rfl

/-- Narrowing a byte keeps it modulo the field's size. -/
theorem setWidth_eq_ofNat_mod (n : Nat) (v : Byte) :
    v.setWidth n = BitVec.ofNat n (v.toNat % 2 ^ n) := by
  refine BitVec.eq_of_toNat_eq ?_
  simp

theorem writeToRom_mbc1 {k : Cart} (hk : k.variant = .mbc1) (a : Nat) (v : Byte) (now : Rtc) :
    writeToRom k a v now = writeMbc1 k a v := by
  simp only [writeToRom, hk]

theorem writeToRom_mbc3 {k : Cart} (hk : k.variant = .mbc3) (a : Nat) (v : Byte) (now : Rtc) :
    writeToRom k a v now = writeMbc3 k a v now := by
  simp only [writeToRom, hk]

theorem writeToRom_noBanking {k : Cart} (hk : k.variant = .noBanking) (a : Nat) (v : Byte)
    (now : Rtc) : writeToRom k a v now = k := by
  simp only [writeToRom, hk]

/-- The MBC3's bank register takes seven bits, 0 bumped to 1 (R154). -/
theorem romBank7_eq (v : Byte) :
    (if v.setWidth 7 = (0 : BitVec 7) then 1 else v.setWidth 7) =
      BitVec.ofNat 7 (max 1 (v.toNat % 128)) := by
  have hzero : v.setWidth 7 = (0 : BitVec 7) ↔ v.toNat % 128 = 0 := by
    rw [← BitVec.toNat_inj, BitVec.toNat_setWidth]
    rfl
  split_ifs with h
  · rw [hzero.mp h]
    rfl
  · have hpos : v.toNat % 128 ≠ 0 := mt hzero.mpr h
    rw [max_eq_right (by omega)]
    exact setWidth_eq_ofNat_mod 7 v

/-- Settles O29: the ranges of `writeMbc1` one by one, and `mbc1Bank_eq` for the window. -/
theorem mbc1BankingFollowsTheFields : Obligations.Mbc1BankingFollowsTheFields := by
  intro s a v hv
  have control : a.toNat < 0x8000 → (busWrite s a v).cart = writeMbc1 s.cart a.toNat v := fun h => by
    rw [busWrite_control_cart s v h, writeToRom_mbc1 hv]
  refine ⟨fun h => ?_, fun h h' => ?_, fun h h' hm => ?_, fun h h' hm => ?_, fun h h' => ?_,
    fun h h' => ?_⟩
  · rw [control (by omega), writeMbc1, if_pos h, enablesRam_eq]
  · rw [control (by omega), writeMbc1, if_neg (by omega), if_pos h', setWidth_eq_ofNat_mod]
    rfl
  · rw [control (by omega), writeMbc1, if_neg (by omega), if_neg (by omega), if_pos h', if_pos hm,
      setWidth_eq_ofNat_mod]
    rfl
  · rw [control (by omega), writeMbc1, if_neg (by omega), if_neg (by omega), if_pos h',
      if_neg (by simp [hm]), setWidth_eq_ofNat_mod]
    rfl
  · rw [control h', writeMbc1, if_neg (by omega), if_neg (by omega), if_neg (by omega),
      setWidth_eq_ofNat_mod]
    rfl
  · have hbank : selectedBank s.cart = mbc1Bank s.cart := by simp only [selectedBank, hv]
    rw [busByte_upper_windowByte s h h', hbank, mbc1Bank_eq]

/-- Settles O30: the ranges of `writeMbc3` one by one; only the latch draws a value of the clock. -/
theorem mbc3BankingFollowsTheFields : Obligations.Mbc3BankingFollowsTheFields := by
  intro s a v hv
  have control : a.toNat < 0x8000 →
      (busWrite s a v).cart = writeMbc3 s.cart a.toNat v (Config.rtcNow s.draws) := fun h => by
    rw [busWrite_control_cart s v h, writeToRom_mbc3 hv]
  refine ⟨fun h => ?_, fun h h' => ?_, fun h h' => ?_, fun h h' => ⟨?_, ?_⟩, fun h h' => ?_⟩
  · rw [control (by omega), writeMbc3, if_pos h, enablesRam_eq]
  · rw [control (by omega), writeMbc3, if_neg (by omega), if_pos h', romBank7_eq]
  · rw [control (by omega), writeMbc3, if_neg (by omega), if_neg (by omega), if_pos h']
  · rw [control h', writeMbc3, if_neg (by omega), if_neg (by omega), if_neg (by omega)]
  · rw [busWrite_control s v h']
    simp [cartControl, latchesRtc, hv, h]
  · have hbank : selectedBank s.cart = s.cart.romBank7.toNat := by simp only [selectedBank, hv]
    rw [busByte_upper_windowByte s h h', hbank]

/-! ## The external window -/

theorem extTarget_disabled {k : Cart} (h : k.ramEnabled = false) (a : Nat) :
    extTarget k a = .nothing := if_pos h

/-- The bank of external RAM that the variant shows: the MBC1's RAM bank, else the MBC3's select
(R152, R157). -/
def ramBankOf (k : Cart) : Nat :=
  if k.variant = .mbc1 then k.ramBank.toNat else k.select.toNat

/-- The two ways to reach external RAM: an MBC1, or an MBC3 whose select names a bank (R152, R157). -/
def SelectsRam (k : Cart) : Prop :=
  k.variant = .mbc1 ∨ (k.variant = .mbc3 ∧ k.select.toNat ≤ 3)

theorem extTarget_of_selectsRam {k : Cart} (he : k.ramEnabled = true) (h : SelectsRam k) (a : Nat) :
    extTarget k a = ramTarget k (ramBankOf k) a := by
  rcases h with h | ⟨h, hs⟩
  · simp [extTarget, ramBankOf, he, h]
  · simp [extTarget, ramBankOf, he, h, hs]

theorem extTarget_rtc {k : Cart} (he : k.ramEnabled = true) (h : k.variant = .mbc3)
    (hs : 8 ≤ k.select.toNat) (hs' : k.select.toNat ≤ 12) (a : Nat) :
    extTarget k a = .rtc (k.select.toNat - 8) := by
  have h3 : ¬ k.select.toNat ≤ 3 := by omega
  simp [extTarget, he, h, h3, hs, hs']

theorem extTarget_unselected {k : Cart} (he : k.ramEnabled = true) (h : k.variant = .mbc3)
    (hs : (3 < k.select.toNat ∧ k.select.toNat < 8) ∨ 12 < k.select.toNat) (a : Nat) :
    extTarget k a = .nothing := by
  have h3 : ¬ k.select.toNat ≤ 3 := by omega
  have h12 : ¬(8 ≤ k.select.toNat ∧ k.select.toNat ≤ 12) := by omega
  simp [extTarget, he, h, h3, h12]

theorem extTarget_noBanking {k : Cart} (h : k.variant = .noBanking) (a : Nat) :
    extTarget k a = .nothing := by
  simp [extTarget, h]

/-- A store to the window changes nothing of what the window reaches. -/
theorem extTarget_writeExternal (k : Cart) (a x : Nat) (v : Byte) :
    extTarget (writeExternal k a v) x = extTarget k x := by
  unfold writeExternal
  split
  · rfl
  · rfl
  · rfl

theorem rtcField_rtcSetField (r : Rtc) (i : Nat) (v : Byte) :
    rtcField (rtcSetField r i v) i = v := by
  match i with
  | 0 | 1 | 2 | 3 | _ + 4 => rfl

/-- Where the window reaches a byte, a store is read back (R145). -/
theorem readExternal_writeExternal (k : Cart) (a : Nat) (v : Byte) (h : extTarget k a ≠ .nothing) :
    readExternal (writeExternal k a v) a = v := by
  rw [readExternal, extTarget_writeExternal]
  cases ht : extTarget k a with
  | nothing => exact absurd ht h
  | ram off =>
    simp only [writeExternal, ht]
    exact read_write_self zeroByte k.eram off v
  | rtc i =>
    simp only [writeExternal, ht]
    exact rtcField_rtcSetField k.rtc i v

theorem writeExternal_nothing {k : Cart} {a : Nat} (h : extTarget k a = .nothing) (v : Byte) :
    writeExternal k a v = k := by
  rw [writeExternal, h]

/-- Where the window reaches nothing, a read gives 0xFF and a store changes nothing (R145). -/
theorem external_nothing (s : State) {a : Word} (v : Byte) (ha : inExternal a = true)
    (h : extTarget s.cart a.toNat = .nothing) : busByte s a = 0xFF ∧ busWrite s a v = s := by
  constructor
  · rw [busByte_external s ha, readExternal, h]
  · rw [busWrite_external s v ha, writeExternal_nothing h]

/-- Where it reaches a byte, a store is read back over the bus. -/
theorem external_roundTrip (s : State) {a : Word} (v : Byte) (ha : inExternal a = true)
    (h : extTarget s.cart a.toNat ≠ .nothing) : busByte (busWrite s a v) a = v := by
  rw [busWrite_external s v ha, busByte_external _ ha]
  exact readExternal_writeExternal s.cart a.toNat v h

/-- The RTC registers in the order of their indices (R155). -/
theorem rtcField_eq_getD (r : Rtc) {i : Nat} (h : i ≤ 4) :
    rtcField r i = [r.seconds, r.minutes, r.hours, r.dayLow, r.dayHigh].getD i 0 := by
  match i with
  | 0 | 1 | 2 | 3 | 4 => rfl

/-- Settles O31: each clause is one target of the window. -/
theorem externalWindowRoundTrip : Obligations.ExternalWindowRoundTrip := by
  intro s a v ha
  have ram (he : s.cart.ramEnabled = true) (hs : SelectsRam s.cart) :
      extTarget s.cart a.toNat = ramTarget s.cart (ramBankOf s.cart) a.toNat :=
    extTarget_of_selectsRam he hs a.toNat
  refine ⟨fun he => ?_, fun he hlen hs => ?_, fun he hlen hs => ?_, fun he hv hs hs' => ?_,
    fun he hv hs => ?_⟩
  · exact external_nothing s v ha (extTarget_disabled he _)
  · have ht := ram he hs
    rw [ramTarget, if_neg (by omega)] at ht
    refine ⟨external_roundTrip s v ha (by simp [ht]), ?_⟩
    rw [busByte_external s ha, readExternal, ht]
    rfl
  · have ht := ram he hs
    rw [ramTarget, if_pos hlen] at ht
    exact external_nothing s v ha ht
  · have ht := extTarget_rtc he hv hs hs' a.toNat
    refine ⟨external_roundTrip s v ha (by simp [ht]), ?_⟩
    rw [busByte_external s ha, readExternal, ht]
    exact rtcField_eq_getD s.cart.rtc (by omega)
  · exact external_nothing s v ha (extTarget_unselected he hv hs _)

/-- Settles O32: without a banking controller a control write answers the same cartridge, and the window
reaches nothing. -/
theorem noBankingIgnoresControl : Obligations.NoBankingIgnoresControl := by
  refine ⟨fun _ _ => rfl, fun s a v hv => ⟨?_, fun ha => ?_, fun h h' => ?_⟩⟩
  · rw [busWrite_cart]
    split_ifs
    · exact writeToRom_noBanking hv _ _ _
    · exact writeExternal_nothing (extTarget_noBanking hv _) v
    · rfl
  · exact external_nothing s v ha (extTarget_noBanking hv _)
  · have hbank : selectedBank s.cart = 1 := by simp only [selectedBank, hv]
    rw [busByte_upper_windowByte s h h', hbank]

/-! ## The save bytes at a load -/

/-- Bytes listed one after another from offset `n` on are read back there, over what was listed
before. -/
theorem read_foldl_zipIdx (bs : List Byte) (n : Nat) (m : List Host.Cell) (off : Nat) :
    Memory.read zeroByte ((bs.zipIdx n).foldl (fun m vi => Memory.write zeroByte m vi.2 vi.1) m) off =
      if n ≤ off then bs.getD (off - n) (Memory.read zeroByte m off)
      else Memory.read zeroByte m off := by
  induction bs generalizing n m with
  | nil => simp
  | cons b bs ih =>
    rw [List.zipIdx_cons, List.foldl_cons, ih]
    rcases Nat.lt_trichotomy off n with h | rfl | h
    · rw [if_neg (by omega), if_neg (by omega), read_write_other _ _ _ _ _ (by omega)]
    · rw [if_neg (by omega), if_pos (Nat.le_refl _), read_write_self, Nat.sub_self]
      rfl
    · obtain ⟨d, rfl⟩ : ∃ d, off = n + 1 + d := ⟨off - (n + 1), by omega⟩
      rw [if_pos (by omega), if_pos (by omega), read_write_other _ _ _ _ _ (by omega),
        Nat.add_sub_cancel_left, show n + 1 + d - n = d + 1 by omega]
      rfl

/-- External RAM at a load: the save bytes that fit, zero after them (R161). -/
theorem read_loadRam (n : Nat) (save : List Byte) (off : Nat) :
    Memory.read zeroByte (loadRam n save) off = if off < n then save.getD off 0 else 0 := by
  rw [loadRam, read_foldl_zipIdx, if_pos (Nat.zero_le _), Nat.sub_zero]
  simp only [List.getD_eq_getElem?_getD, List.getElem?_take]
  split_ifs
  · rfl
  · rfl

/-- A load that leaves no fault has built the image's cartridge (R902, R1010). -/
theorem loadCartridge_cart {s : State} {img : Image} {save : List Byte} (hs : s.fault = none)
    (h : (loadCartridge s img save).fault = none) :
    ∃ v, (loadCartridge s img save).cart = loadedCart v img save := by
  unfold loadCartridge at h ⊢
  rw [if_neg (by simp [hs])] at h ⊢
  split at h
  · cases h
  · rename_i hlen
    rw [if_neg hlen]
    cases hv : variantOf (imageByte img 0x0147) with
    | none =>
      rw [hv] at h
      cases h
    | some v => exact ⟨v, rfl⟩

/-- Settles O23: the load has built its cartridge, whose RAM is `loadRam` of its length. -/
theorem saveRamIsCopiedIn : Obligations.SaveRamIsCopiedIn := by
  intro s img save off hs h
  obtain ⟨v, hv⟩ := loadCartridge_cart hs h
  rw [hv]
  exact read_loadRam (loadRamLen v img) save off

end Sys2Proof.Proofs
end

section
/-! PROOFS. Decoding and encoding are inverse: the opcode maps row by row, the decoder format by format
(30_encoding.md). -/

namespace Sys2Proof.Proofs

open Sys2Proof.Machine Sys2Proof.Claims Sys2Proof.Laws

/-! ## The decoder, one equation for each format -/

theorem decode_p1 {op : Byte} (h : formatOf op = .p1) (rest : List Byte) :
    decode (op :: rest) = .ok (assemble op 0 0, rest) := by
  simp only [decode, h]

theorem decode_p2 {op : Byte} (h : formatOf op = .p2) (n : Byte) (rest : List Byte) :
    decode (op :: n :: rest) = .ok (assemble op n 0, rest) := by
  simp only [decode, h]

theorem decode_p3 {op : Byte} (h : formatOf op = .p3) (lo hi : Byte) (rest : List Byte) :
    decode (op :: lo :: hi :: rest) = .ok (assemble op lo hi, rest) := by
  simp only [decode, h]

theorem decode_cb {op : Byte} (h : formatOf op = .cb) (n : Byte) (rest : List Byte) :
    decode (op :: n :: rest) = .ok (assemble op n 0, rest) := by
  simp only [decode, h]

theorem decode_stop {op : Byte} (h : formatOf op = .stop) (skipped : Byte) (rest : List Byte) :
    decode (op :: skipped :: rest) = .ok (assemble op 0 0, rest) := by
  simp only [decode, h]

/-- `Spells used i`: the bytes `used`, no more and no fewer, are read as `i` (R200). -/
inductive Spells : List Byte → Instr → Prop where
  | p1 {op : Byte} (h : formatOf op = .p1) : Spells [op] (assemble op 0 0)
  | p2 {op : Byte} (h : formatOf op = .p2) (n : Byte) : Spells [op, n] (assemble op n 0)
  | p3 {op : Byte} (h : formatOf op = .p3) (lo hi : Byte) : Spells [op, lo, hi] (assemble op lo hi)
  | cb {op : Byte} (h : formatOf op = .cb) (n : Byte) : Spells [op, n] (assemble op n 0)
  | stop {op : Byte} (h : formatOf op = .stop) (skipped : Byte) :
      Spells [op, skipped] (assemble op 0 0)

/-- What bytes that decode begin with: the inversion of `decode`. -/
theorem spells_of_decode {bs rest : List Byte} {i : Instr} (h : decode bs = .ok (i, rest)) :
    ∃ used, bs = used ++ rest ∧ Spells used i := by
  unfold decode at h
  split at h
  · cases h
  · rename_i op tail
    split at h
    · cases h
      exact ⟨[op], rfl, .p1 ‹_›⟩
    · cases h
      exact ⟨[op, _], rfl, .p2 ‹_› _⟩
    · cases h
      exact ⟨[op, _, _], rfl, .p3 ‹_› _ _⟩
    · cases h
      exact ⟨[op, _], rfl, .cb ‹_› _⟩
    · cases h
      exact ⟨[op, _], rfl, .stop ‹_› _⟩
    · cases h

/-- Three bytes are enough for every format (R200). -/
theorem decode_three (x y z : Byte) (rest : List Byte) :
    ∃ i r, decode (x :: y :: z :: rest) = .ok (i, r) := by
  cases h : formatOf x with
  | p1 => exact ⟨_, _, decode_p1 h _⟩
  | p2 => exact ⟨_, _, decode_p2 h y _⟩
  | p3 => exact ⟨_, _, decode_p3 h y z _⟩
  | cb => exact ⟨_, _, decode_cb h y _⟩
  | stop => exact ⟨_, _, decode_stop h y _⟩

/-! ## Decoding an encoding -/

/-- An instruction with a 16-bit immediate: the two bytes give the immediate back (R209). -/
theorem decode_immediate16 {op : Byte} {i : Word → Instr} (h : formatOf op = .p3)
    (row : ∀ lo hi, assemble op lo hi = i (mkWord hi lo)) (nn : Word) (rest : List Byte) :
    decode (op :: lo8 nn :: hi8 nn :: rest) = .ok (i nn, rest) := by
  rw [decode_p3 h, row, mkWord_halves]

/-- A 16-bit immediate is put together again; every other row evaluates, an operand byte taken as it
stands. -/
theorem decode_encode (i : Instr) (rest : List Byte) (h : WellFormed i = true) :
    decode (encode i ++ rest) = .ok (i, rest) := by
  cases i with
  | prefix_CB => cases h
  | ld_bc_d16 nn | ld_de_d16 nn | ld_hl_d16 nn | ld_sp_d16 nn | ld_at16_sp nn | ld_at16_a nn
  | ld_a_at16 nn | jp_a16 nn | jp_nz_a16 nn | jp_z_a16 nn | jp_nc_a16 nn | jp_c_a16 nn | call_a16 nn
  | call_nz_a16 nn | call_z_a16 nn | call_nc_a16 nn | call_c_a16 nn =>
    exact decode_immediate16 rfl (fun _ _ => rfl) nn rest
  | _ => rfl

/-- Settles O1: constructor by constructor, the row that the encoding selects is the instruction's. -/
theorem decodeOfEncode : Obligations.DecodeOfEncode := decode_encode

/-- Settles O3: each word selects one row of the maps. -/
theorem knownWordsDecode : Obligations.KnownWordsDecode :=
  ⟨decode_encode .ld_a_b [] rfl, decode_encode (.ld_c_d8 0x5A) [] rfl,
   decode_encode (.ld_sp_d16 0xDFFF) [] rfl, decode_encode .push_af [] rfl,
   decode_encode .sbc_a_h [] rfl, decode_encode .add_hl_hl [] rfl, decode_encode .sra_d [] rfl,
   decode_encode .bit_7_h [] rfl, decode_encode .res_0_atHL [] rfl,
   decode_encode (.jr_c_r8 0x10) [] rfl, decode_encode (.call_z_a16 0x0300) [] rfl,
   decode_encode .rst_28 [] rfl, decode_encode .halt [] rfl, decode_encode .stop [] rfl,
   decode_encode .illegal_D3 [] rfl⟩

/-! ## Encoding what was decoded -/

/-- A statement about every byte holds when it holds at each row and column of a 16 by 16 map. -/
theorem forall_opcode {P : Byte → Prop}
    (h : ∀ row < 16, ∀ col < 16, P (BitVec.ofNat 8 (16 * row + col))) (op : Byte) : P op := by
  have e : BitVec.ofNat 8 (16 * (op.toNat / 16) + op.toNat % 16) = op := by
    rw [Nat.div_add_mod, BitVec.ofNat_toNat, BitVec.setWidth_eq]
  exact e ▸ h _ (by omega) _ (Nat.mod_lt _ (by decide))

/-- The operand bytes that the encoder writes, of the two that `assemble` is given; a 16-bit immediate
is put together and taken apart again. -/
def operandBytes (m : Format) (n1 n2 : Byte) : List Byte :=
  match m with
  | .p1 => []
  | .p2 => [n1]
  | .p3 => [lo8 (mkWord n2 n1), hi8 (mkWord n2 n1)]
  | .cb => [n1]
  | .stop => [0x00]

/-- The secondary map read backwards (R211). -/
theorem encode_secondaryInstr (n : Byte) : encode (secondaryInstr n) = [0xCB, n] := by
  induction n using forall_opcode with
  | h row hrow col hcol => interval_cases row <;> interval_cases col <;> rfl

/-- The primary map read backwards (R210). -/
theorem encode_primaryInstr {op : Byte} (n1 n2 : Byte) (h : op ≠ 0xCB) :
    encode (primaryInstr op n1 n2) = op :: operandBytes (formatOf op) n1 n2 := by
  induction op using forall_opcode with
  | h row hrow col hcol => interval_cases row <;> interval_cases col <;> rfl

theorem encode_assemble (op n1 n2 : Byte) :
    encode (assemble op n1 n2) = op :: operandBytes (formatOf op) n1 n2 := by
  by_cases h : op = 0xCB
  · subst h
    exact encode_secondaryInstr n1
  · rw [assemble_primary op n1 n2 h, encode_primaryInstr n1 n2 h]

/-- Every row of the secondary map is an instruction in its own right. -/
theorem wellFormed_secondaryInstr (n : Byte) : WellFormed (secondaryInstr n) = true := by
  induction n using forall_opcode with
  | h row hrow col hcol => interval_cases row <;> interval_cases col <;> rfl

/-- Of the primary map's rows only 0xCB's is none (R808). -/
theorem wellFormed_primaryInstr (op n1 n2 : Byte) :
    WellFormed (primaryInstr op n1 n2) = decide (op ≠ 0xCB) := by
  induction op using forall_opcode with
  | h row hrow col hcol => interval_cases row <;> interval_cases col <;> rfl

theorem wellFormed_assemble (op n1 n2 : Byte) : WellFormed (assemble op n1 n2) = true := by
  by_cases h : op = 0xCB
  · subst h
    exact wellFormed_secondaryInstr n1
  · rw [assemble_primary op n1 n2 h, wellFormed_primaryInstr]
    exact decide_eq_true h

/-- STOP's format is 0x10's alone (R803). -/
theorem formatOf_eq_stop {op : Byte} : formatOf op = .stop ↔ op = 0x10 := by
  revert op
  decide

theorem Spells.wellFormed {used : List Byte} {i : Instr} (h : Spells used i) :
    WellFormed i = true := by
  cases h <;> exact wellFormed_assemble _ _ _

/-- The bytes of an instruction are its encoding, but for STOP's second byte (R217, R803). -/
theorem Spells.encode_or_stop {used : List Byte} {i : Instr} (h : Spells used i) :
    used = encode i ∨ i = .stop ∧ ∃ skipped, used = [0x10, skipped] := by
  cases h with
  | p1 h => exact .inl (by rw [encode_assemble, h, operandBytes])
  | p2 h n => exact .inl (by rw [encode_assemble, h, operandBytes])
  | p3 h lo hi => exact .inl (by rw [encode_assemble, h, operandBytes, lo8_mkWord, hi8_mkWord])
  | cb h n => exact .inl (by rw [encode_assemble, h, operandBytes])
  | stop h skipped =>
    obtain rfl := formatOf_eq_stop.1 h
    exact .inr ⟨rfl, skipped, rfl⟩

theorem Spells.eq_encode {used : List Byte} {i : Instr} (h : Spells used i) (hi : i ≠ .stop) :
    used = encode i :=
  h.encode_or_stop.resolve_right fun e => hi e.1

theorem Spells.stop_bytes {used : List Byte} (h : Spells used .stop) :
    ∃ skipped, used = [0x10, skipped] :=
  h.encode_or_stop.elim (fun e => ⟨0x00, e⟩) And.right

theorem Spells.length {used : List Byte} {i : Instr} (h : Spells used i) :
    used.length = instrLength i := by
  rcases h.encode_or_stop with rfl | ⟨rfl, skipped, rfl⟩
  · rfl
  · rfl

/-- Settles O2: the decoder's inversion, and the encoder over the maps. -/
theorem decodedBytesAreTheEncoding : Obligations.DecodedBytesAreTheEncoding := by
  refine ⟨decode_three, fun bs i rest h => ?_⟩
  obtain ⟨used, hbs, hs⟩ := spells_of_decode h
  refine ⟨hs.wellFormed, used, hbs, hs.length, hs.eq_encode, ?_⟩
  rintro rfl
  exact hs.stop_bytes

/-! ## The families, field by field -/

theorem lo8_eq_lowByte (w : Word) : lo8 w = lowByte w := by
  apply BitVec.eq_of_toNat_eq
  simp [lo8, lowByte]

theorem hi8_eq_highByte (w : Word) : hi8 w = highByte w := by
  apply BitVec.eq_of_toNat_eq
  simp [hi8, highByte, Nat.shiftRight_eq_div_pow]

theorem encode_ldRegReg (q r : Reg8) :
    encode (.ldRegReg q r) = [0x40 + 8 * regCode q + regCode r] := by
  cases q <;> cases r <;> rfl

theorem encode_ldRegImm (q : Reg8) (n : Byte) :
    encode (.ldRegImm q n) = [0x06 + 8 * regCode q, n] := by
  cases q <;> rfl

theorem encode_ldRegMem (q : Reg8) : encode (.ldRegMem q) = [0x46 + 8 * regCode q] := by
  cases q <;> rfl

theorem encode_ldMemReg (r : Reg8) : encode (.ldMemReg r) = [0x70 + regCode r] := by
  cases r <;> rfl

theorem encode_ldPairImm (p : Reg16) (nn : Word) :
    encode (.ldPairImm p nn) = [0x01 + 16 * pairCode p, lowByte nn, highByte nn] := by
  rw [← lo8_eq_lowByte, ← hi8_eq_highByte]
  cases p <;> rfl

theorem encode_push (p : StkReg) : encode (.push p) = [0xC5 + 16 * stkCode p] := by
  cases p <;> rfl

theorem encode_pop (p : StkReg) : encode (.pop p) = [0xC1 + 16 * stkCode p] := by
  cases p <;> rfl

theorem encode_aluReg (o : AluOp) (r : Reg8) :
    encode (.aluReg o r) = [0x80 + 8 * aluCode o + regCode r] := by
  cases o <;> cases r <;> rfl

theorem encode_aluMem (o : AluOp) : encode (.aluMem o) = [0x86 + 8 * aluCode o] := by
  cases o <;> rfl

theorem encode_aluImm (o : AluOp) (n : Byte) :
    encode (.aluImm o n) = [0xC6 + 8 * aluCode o, n] := by
  cases o <;> rfl

theorem encode_incReg (r : Reg8) : encode (.incReg r) = [0x04 + 8 * regCode r] := by
  cases r <;> rfl

theorem encode_decReg (r : Reg8) : encode (.decReg r) = [0x05 + 8 * regCode r] := by
  cases r <;> rfl

theorem encode_addHL (p : Reg16) : encode (.addHL p) = [0x09 + 16 * pairCode p] := by
  cases p <;> rfl

theorem encode_incPair (p : Reg16) : encode (.incPair p) = [0x03 + 16 * pairCode p] := by
  cases p <;> rfl

theorem encode_decPair (p : Reg16) : encode (.decPair p) = [0x0B + 16 * pairCode p] := by
  cases p <;> rfl

theorem encode_jpCond (k : Cond) (nn : Word) :
    encode (.jpCond k nn) = [0xC2 + 8 * condCode k, lowByte nn, highByte nn] := by
  rw [← lo8_eq_lowByte, ← hi8_eq_highByte]
  cases k <;> rfl

theorem encode_jrCond (k : Cond) (e : Byte) :
    encode (.jrCond k e) = [0x20 + 8 * condCode k, e] := by
  cases k <;> rfl

theorem encode_callCond (k : Cond) (nn : Word) :
    encode (.callCond k nn) = [0xC4 + 8 * condCode k, lowByte nn, highByte nn] := by
  rw [← lo8_eq_lowByte, ← hi8_eq_highByte]
  cases k <;> rfl

theorem encode_retCond (k : Cond) : encode (.retCond k) = [0xC0 + 8 * condCode k] := by
  cases k <;> rfl

theorem encode_rst (y : Fin 8) : encode (.rst y) = [0xC7 + 8 * bitCode y] := by
  fin_cases y <;> rfl

theorem encode_illegal (k : Fin 11) : encode (.illegal k) = [illegalByte k] := by
  fin_cases k <;> rfl

theorem encode_rotReg (o : RotOp) (r : Reg8) :
    encode (.rotReg o r) = [0xCB, 8 * rotCode o + regCode r] := by
  cases o <;> cases r <;> rfl

theorem encode_rotMem (o : RotOp) : encode (.rotMem o) = [0xCB, 8 * rotCode o + 6] := by
  cases o <;> rfl

theorem encode_bitReg (b : Fin 8) (r : Reg8) :
    encode (.bitReg b r) = [0xCB, 0x40 + 8 * bitCode b + regCode r] := by
  fin_cases b <;> cases r <;> rfl

theorem encode_bitMem (b : Fin 8) : encode (.bitMem b) = [0xCB, 0x46 + 8 * bitCode b] := by
  fin_cases b <;> rfl

theorem encode_resReg (b : Fin 8) (r : Reg8) :
    encode (.resReg b r) = [0xCB, 0x80 + 8 * bitCode b + regCode r] := by
  fin_cases b <;> cases r <;> rfl

theorem encode_resMem (b : Fin 8) : encode (.resMem b) = [0xCB, 0x86 + 8 * bitCode b] := by
  fin_cases b <;> rfl

theorem encode_setReg (b : Fin 8) (r : Reg8) :
    encode (.setReg b r) = [0xCB, 0xC0 + 8 * bitCode b + regCode r] := by
  fin_cases b <;> cases r <;> rfl

theorem encode_setMem (b : Fin 8) : encode (.setMem b) = [0xCB, 0xC6 + 8 * bitCode b] := by
  fin_cases b <;> rfl

/-- Settles O4: each family's encoding from its operand codes. -/
theorem encodingFields : Obligations.EncodingFields :=
  ⟨encode_ldRegReg, encode_ldRegImm, encode_ldRegMem, encode_ldMemReg, encode_ldPairImm,
   encode_push, encode_pop, encode_aluReg, encode_aluMem, encode_aluImm, encode_incReg,
   encode_decReg, encode_addHL, encode_incPair, encode_decPair, encode_jpCond, encode_jrCond,
   encode_callCond, encode_retCond, encode_rst, encode_illegal, encode_rotReg, encode_rotMem,
   encode_bitReg, encode_bitMem, encode_resReg, encode_resMem, encode_setReg, encode_setMem⟩

end Sys2Proof.Proofs
end

section
/-! PROOFS. What each opcode costs: the M-cycles of every shared operation, counted by kind, against the
maps of R210 and R211. -/

namespace Sys2Proof.Proofs

open Sys2Proof.Machine Sys2Proof.Claims Sys2Proof.Laws

/-! ## M-cycles, counted by kind -/

/-- From `s` to `t` pass `acc` M-cycles with a bus access, each delivering `Clock(4)`, and `int` Internal
ones, which deliver it under PER_MCYCLE only (R12, R13, R940). -/
structure Spends (acc int : Nat) (s t : State) : Prop where
  ticks : t.ticks = s.ticks + 4 * (acc + int)
  clocks : t.clocks + silent int = s.clocks + acc + int

theorem silent_add (m n : Nat) : silent (m + n) = silent m + silent n := by
  unfold silent
  split_ifs <;> rfl

theorem Spends.trans {a b m n : Nat} {s t u : State} (h : Spends a m s t) (k : Spends b n t u) :
    Spends (a + b) (m + n) s u := by
  obtain ⟨ht, hc⟩ := h
  obtain ⟨kt, kc⟩ := k
  exact ⟨by omega, by rw [silent_add]; omega⟩

/-- A change that touches neither counter after the M-cycles. -/
theorem Spends.free {a m : Nat} {s t u : State} (h : Spends a m s t) (ht : u.ticks = t.ticks)
    (hc : u.clocks = t.clocks) : Spends a m s u :=
  ⟨ht.trans h.ticks, by rw [hc, h.clocks]⟩

theorem Spends.withF {a m : Nat} {s t : State} (h : Spends a m s t) (g : Flags) :
    Spends a m s { t with f := g } := h.free rfl rfl

theorem Spends.withHL {a m : Nat} {s t : State} (h : Spends a m s t) (w : Word) :
    Spends a m s (setHL t w) := h.free rfl rfl

theorem Spends.withPc {a m : Nat} {s t : State} (h : Spends a m s t) (w : Word) :
    Spends a m s { t with pc := w } := h.free rfl rfl

theorem Spends.refl (s : State) : Spends 0 0 s s := ⟨rfl, by simp [silent]⟩

theorem Spends.none {s t : State} (ht : t.ticks = s.ticks) (hc : t.clocks = s.clocks) :
    Spends 0 0 s t :=
  (Spends.refl s).free ht hc

theorem memRead_spends (s : State) (a : Word) : Spends 1 0 s (memRead s a).2 :=
  ⟨memRead_ticks s a, by simp [silent]⟩

theorem memWrite_spends (s : State) (a : Word) (v : Byte) : Spends 1 0 s (memWrite s a v) :=
  ⟨memWrite_ticks s a v, by simp [silent]⟩

theorem internal_spends (s : State) : Spends 0 1 s (internal s) := by
  refine ⟨internal_ticks s, ?_⟩
  rw [internal_clocks, silent]
  split_ifs <;> rfl

theorem popByte_spends (s : State) : Spends 1 0 s (popByte s).2 :=
  (memRead_spends s s.sp).free rfl rfl

theorem popWord_spends (s : State) : Spends 2 0 s (popWord s).2 := by
  rw [popWord_snd]
  exact (popByte_spends s).trans (popByte_spends _)

theorem pushWord_spends (s : State) (w : Word) : Spends 2 0 s (pushWord s w) :=
  ⟨pushWord_ticks s w, by simp [silent]⟩

theorem setR8_spends (s : State) (q : Reg8) (v : Byte) : Spends 0 0 s (setR8 s q v) :=
  Spends.none (setR8_ticks s q v) (setR8_clocks s q v)

theorem setR16_spends (s : State) (p : Reg16) (v : Word) : Spends 0 0 s (setR16 s p v) :=
  Spends.none (setR16_ticks s p v) (setR16_clocks s p v)

theorem loadRegAt_spends (s : State) (q : Reg8) (a : Word) : Spends 1 0 s (loadRegAt s q a) :=
  (memRead_spends s a).trans (setR8_spends _ q _)

theorem modifyHL_spends (s : State) (g : Byte → Byte) : Spends 2 0 s (modifyHL s g) :=
  (memRead_spends s _).trans (memWrite_spends _ _ _)

theorem stepPair_spends (s : State) (p : Reg16) (d : Word) : Spends 0 1 s (stepPair s p d) :=
  (internal_spends s).trans (setR16_spends _ p _)

theorem popPair_spends (s : State) (p : StkReg) : Spends 2 0 s (popPair s p) :=
  (popWord_spends s).free (setStk16_ticks _ p _) (setStk16_clocks _ p _)

theorem pushPair_spends (s : State) (p : StkReg) : Spends 2 1 s (pushPair s p) :=
  (internal_spends s).trans (pushWord_spends _ _)

theorem jumpTo_spends (s : State) (w : Word) : Spends 0 1 s (jumpTo s w) :=
  (internal_spends s).withPc w

theorem callTo_spends (s : State) (w : Word) : Spends 2 1 s (callTo s w) :=
  ((internal_spends s).trans (pushWord_spends _ s.pc)).withPc w

theorem returnPop_spends (s : State) : Spends 2 1 s (returnPop s) :=
  ((popWord_spends s).trans (internal_spends _)).withPc _

theorem haltCpu_spends (s : State) : Spends 0 0 s (haltCpu s) := by
  rcases haltCpu_cases s with e | e
  · rw [e]
    exact .none rfl rfl
  · rw [e]
    exact .none rfl rfl

/-! ## The maps, opcode by opcode -/

/-- `op` is a primary opcode that has one cost in the maps (R210). -/
@[reducible] def FixedPrice (op : Byte) (ticks int : Nat) : Prop :=
  op ≠ 0xCB ∧ notTakenTicks op = none ∧ takenTicks op = ticks ∧ internalCycles op Flags.reset = int

/-- An opcode without a not-taken cost has the same Internal M-cycles under all flags. -/
theorem internalCycles_congr {op : Byte} (h : notTakenTicks op = none) (f g : Flags) :
    internalCycles op f = internalCycles op g := by
  unfold notTakenTicks at h
  split_ifs at h with h8 h12
  have hret : op ∉ [0xC0, 0xC8, 0xD0, 0xD8] :=
    fun m => h8 (List.mem_append_right [0x20, 0x28, 0x30, 0x38] m)
  have hjump : op ∉ [0x20, 0x28, 0x30, 0x38, 0xC2, 0xCA, 0xD2, 0xDA, 0xC4, 0xCC, 0xD4, 0xDC] :=
    fun m => (List.mem_append (s := [0x20, 0x28, 0x30, 0x38]).1 m).elim
      (fun m => h8 (List.mem_append_left [0xC0, 0xC8, 0xD0, 0xD8] m)) h12
  simp only [internalCycles, if_neg hret, if_neg hjump]

theorem internalCycles_jump {op : Byte} (f : Flags)
    (h : op ∈ [0x20, 0x28, 0x30, 0x38, 0xC2, 0xCA, 0xD2, 0xDA, 0xC4, 0xCC, 0xD4, 0xDC]) :
    internalCycles op f = if conditionBits op f then 1 else 0 := by
  have hsp : op ≠ 0xE8 := fun e => absurd (e ▸ h) (by decide)
  have hapart : ∀ x ∈ ([0xC0, 0xC8, 0xD0, 0xD8] : List Byte),
      x ∉ [0x20, 0x28, 0x30, 0x38, 0xC2, 0xCA, 0xD2, 0xDA, 0xC4, 0xCC, 0xD4, 0xDC] := by decide
  have hret : op ∉ [0xC0, 0xC8, 0xD0, 0xD8] := fun m => hapart op m h
  rw [internalCycles, if_neg hsp, if_neg hret, if_pos h]

theorem internalCycles_ret {op : Byte} (f : Flags) (h : op ∈ [0xC0, 0xC8, 0xD0, 0xD8]) :
    internalCycles op f = if conditionBits op f then 2 else 1 := by
  have hsp : op ≠ 0xE8 := fun e => absurd (e ▸ h) (by decide)
  rw [internalCycles, if_neg hsp, if_pos h]

/-! ## The maps, instruction by instruction -/

/-- The maps' price of `i` under flags `f`: the M-cycles of its fetch, its whole cost in ticks and its
Internal M-cycles, the maps read at the bytes that encode it (R210, R211). -/
structure Priced (i : Instr) (f : Flags) (fetch total int : Nat) : Prop where
  cycles : fetchCycles i = fetch
  ticks : totalTicks ((encode i).getD 0 0) ((encode i).getD 1 0) f = total
  internals : internalCycles ((encode i).getD 0 0) f = int

theorem priced_fixed {i : Instr} {op : Byte} {args : List Byte} {fetch total int : Nat} {f : Flags}
    (he : encode i = op :: args) (hf : fetchCycles i = fetch) (h : FixedPrice op total int) :
    Priced i f fetch total int := by
  obtain ⟨hop, hnone, ht, hi⟩ := h
  refine ⟨hf, ?_, ?_⟩
  · rw [he, List.getD_cons_zero, totalTicks, if_neg hop, hnone, ht]
  · rw [he, List.getD_cons_zero, internalCycles_congr hnone f Flags.reset, hi]

/-- A conditional form costs what the maps say for its condition's outcome (R701). -/
theorem priced_conditional {i : Instr} {op : Byte} {args : List Byte} {fetch taken other m n : Nat}
    {f : Flags} {k : Cond} (he : encode i = op :: args) (hf : fetchCycles i = fetch) (hop : op ≠ 0xCB)
    (hk : conditionBits op f = cond f k) (ht : takenTicks op = taken)
    (ho : notTakenTicks op = some other)
    (hi : internalCycles op f = if conditionBits op f then m else n) :
    Priced i f fetch (if cond f k then taken else other) (if cond f k then m else n) := by
  refine ⟨hf, ?_, ?_⟩
  · rw [he, List.getD_cons_zero, totalTicks, if_neg hop, ho, ← hk, ← ht]
  · rw [he, List.getD_cons_zero, hi, hk]

theorem priced_secondary {i : Instr} {n : Byte} {total : Nat} {f : Flags} (he : encode i = [0xCB, n])
    (hf : fetchCycles i = 2) (ht : prefixedTicks n = total) : Priced i f 2 total 0 := by
  refine ⟨hf, ?_, ?_⟩
  · rw [he]
    exact ht
  · rw [he]
    rfl

theorem priced_ldRegReg (q r : Reg8) (f : Flags) : Priced (.ldRegReg q r) f 1 4 0 := by
  cases q <;> cases r <;> exact priced_fixed rfl rfl (by decide)

theorem priced_ldRegImm (q : Reg8) (n : Byte) (f : Flags) : Priced (.ldRegImm q n) f 2 8 0 := by
  cases q <;> exact priced_fixed rfl rfl (by decide)

theorem priced_ldRegMem (q : Reg8) (f : Flags) : Priced (.ldRegMem q) f 1 8 0 := by
  cases q <;> exact priced_fixed rfl rfl (by decide)

theorem priced_ldMemReg (r : Reg8) (f : Flags) : Priced (.ldMemReg r) f 1 8 0 := by
  cases r <;> exact priced_fixed rfl rfl (by decide)

theorem priced_ldPairImm (p : Reg16) (nn : Word) (f : Flags) :
    Priced (.ldPairImm p nn) f 3 12 0 := by
  cases p <;> exact priced_fixed rfl rfl (by decide)

theorem priced_push (p : StkReg) (f : Flags) : Priced (.push p) f 1 16 1 := by
  cases p <;> exact priced_fixed rfl rfl (by decide)

theorem priced_pop (p : StkReg) (f : Flags) : Priced (.pop p) f 1 12 0 := by
  cases p <;> exact priced_fixed rfl rfl (by decide)

theorem priced_aluReg (o : AluOp) (r : Reg8) (f : Flags) : Priced (.aluReg o r) f 1 4 0 := by
  cases o <;> cases r <;> exact priced_fixed rfl rfl (by decide)

theorem priced_aluMem (o : AluOp) (f : Flags) : Priced (.aluMem o) f 1 8 0 := by
  cases o <;> exact priced_fixed rfl rfl (by decide)

theorem priced_aluImm (o : AluOp) (n : Byte) (f : Flags) : Priced (.aluImm o n) f 2 8 0 := by
  cases o <;> exact priced_fixed rfl rfl (by decide)

theorem priced_incReg (r : Reg8) (f : Flags) : Priced (.incReg r) f 1 4 0 := by
  cases r <;> exact priced_fixed rfl rfl (by decide)

theorem priced_decReg (r : Reg8) (f : Flags) : Priced (.decReg r) f 1 4 0 := by
  cases r <;> exact priced_fixed rfl rfl (by decide)

theorem priced_addHL (p : Reg16) (f : Flags) : Priced (.addHL p) f 1 8 1 := by
  cases p <;> exact priced_fixed rfl rfl (by decide)

theorem priced_incPair (p : Reg16) (f : Flags) : Priced (.incPair p) f 1 8 1 := by
  cases p <;> exact priced_fixed rfl rfl (by decide)

theorem priced_decPair (p : Reg16) (f : Flags) : Priced (.decPair p) f 1 8 1 := by
  cases p <;> exact priced_fixed rfl rfl (by decide)

theorem priced_rst (y : Fin 8) (f : Flags) : Priced (.rst y) f 1 16 1 := by
  fin_cases y <;> exact priced_fixed rfl rfl (by decide)

theorem priced_illegal (k : Fin 11) (f : Flags) : Priced (.illegal k) f 1 4 0 := by
  fin_cases k <;> exact priced_fixed rfl rfl (by decide)

theorem priced_rotReg (o : RotOp) (r : Reg8) (f : Flags) : Priced (.rotReg o r) f 2 8 0 := by
  cases o <;> cases r <;> exact priced_secondary rfl rfl rfl

theorem priced_rotMem (o : RotOp) (f : Flags) : Priced (.rotMem o) f 2 16 0 := by
  cases o <;> exact priced_secondary rfl rfl rfl

theorem priced_bitReg (b : Fin 8) (r : Reg8) (f : Flags) : Priced (.bitReg b r) f 2 8 0 := by
  fin_cases b <;> cases r <;> exact priced_secondary rfl rfl rfl

theorem priced_bitMem (b : Fin 8) (f : Flags) : Priced (.bitMem b) f 2 12 0 := by
  fin_cases b <;> exact priced_secondary rfl rfl rfl

theorem priced_resReg (b : Fin 8) (r : Reg8) (f : Flags) : Priced (.resReg b r) f 2 8 0 := by
  fin_cases b <;> cases r <;> exact priced_secondary rfl rfl rfl

theorem priced_resMem (b : Fin 8) (f : Flags) : Priced (.resMem b) f 2 16 0 := by
  fin_cases b <;> exact priced_secondary rfl rfl rfl

theorem priced_setReg (b : Fin 8) (r : Reg8) (f : Flags) : Priced (.setReg b r) f 2 8 0 := by
  fin_cases b <;> cases r <;> exact priced_secondary rfl rfl rfl

theorem priced_setMem (b : Fin 8) (f : Flags) : Priced (.setMem b) f 2 16 0 := by
  fin_cases b <;> exact priced_secondary rfl rfl rfl

theorem priced_jpCond (k : Cond) (nn : Word) (f : Flags) :
    Priced (.jpCond k nn) f 3 (if cond f k then 16 else 12) (if cond f k then 1 else 0) := by
  cases k <;>
    exact priced_conditional rfl rfl (by decide) rfl rfl rfl (internalCycles_jump f (by decide))

theorem priced_jrCond (k : Cond) (e : Byte) (f : Flags) :
    Priced (.jrCond k e) f 2 (if cond f k then 12 else 8) (if cond f k then 1 else 0) := by
  cases k <;>
    exact priced_conditional rfl rfl (by decide) rfl rfl rfl (internalCycles_jump f (by decide))

theorem priced_callCond (k : Cond) (nn : Word) (f : Flags) :
    Priced (.callCond k nn) f 3 (if cond f k then 24 else 12) (if cond f k then 1 else 0) := by
  cases k <;>
    exact priced_conditional rfl rfl (by decide) rfl rfl rfl (internalCycles_jump f (by decide))

theorem priced_retCond (k : Cond) (f : Flags) :
    Priced (.retCond k) f 1 (if cond f k then 20 else 8) (if cond f k then 2 else 1) := by
  cases k <;>
    exact priced_conditional rfl rfl (by decide) rfl rfl rfl (internalCycles_ret f (by decide))

/-- Every well-formed instruction spends the M-cycles that the maps price it at. -/
theorem priced_of_ran {i : Instr} {s t : State} (h : Ran i s t) (hi : WellFormed i = true) :
    ∃ fetch acc int, Spends acc int s t ∧ Priced i s.f fetch (4 * (fetch + acc + int)) int := by
  cases h with
  | loadRegReg q r => exact ⟨1, 0, 0, setR8_spends s q _, priced_ldRegReg q r _⟩
  | loadImm q n => exact ⟨2, 0, 0, setR8_spends s q n, priced_ldRegImm q n _⟩
  | loadMem q => exact ⟨1, 1, 0, loadRegAt_spends s q _, priced_ldRegMem q _⟩
  | storeReg r => exact ⟨1, 1, 0, memWrite_spends s _ _, priced_ldMemReg r _⟩
  | loadPair p nn => exact ⟨3, 0, 0, setR16_spends s p nn, priced_ldPairImm p nn _⟩
  | push p => exact ⟨1, 2, 1, pushPair_spends s p, priced_push p _⟩
  | pop p => exact ⟨1, 2, 0, popPair_spends s p, priced_pop p _⟩
  | aluReg o r => exact ⟨1, 0, 0, .none rfl rfl, priced_aluReg o r _⟩
  | aluMem o => exact ⟨1, 1, 0, (memRead_spends s (regHL s)).free rfl rfl, priced_aluMem o _⟩
  | aluImm o n => exact ⟨2, 0, 0, .none rfl rfl, priced_aluImm o n _⟩
  | incReg r => exact ⟨1, 0, 0, (setR8_spends s r _).withF _, priced_incReg r _⟩
  | decReg r => exact ⟨1, 0, 0, (setR8_spends s r _).withF _, priced_decReg r _⟩
  | addHL p => exact ⟨1, 0, 1, (internal_spends s).free rfl rfl, priced_addHL p _⟩
  | incPair p => exact ⟨1, 0, 1, stepPair_spends s p 1, priced_incPair p _⟩
  | decPair p => exact ⟨1, 0, 1, stepPair_spends s p (-1), priced_decPair p _⟩
  | rotReg o r => exact ⟨2, 0, 0, (setR8_spends s r _).withF _, priced_rotReg o r _⟩
  | rotMem o => exact ⟨2, 2, 0, (modifyHL_spends s _).withF _, priced_rotMem o _⟩
  | bitReg b r => exact ⟨2, 0, 0, .none rfl rfl, priced_bitReg b r _⟩
  | bitMem b => exact ⟨2, 1, 0, (memRead_spends s _).withF _, priced_bitMem b _⟩
  | resReg b r => exact ⟨2, 0, 0, setR8_spends s r _, priced_resReg b r _⟩
  | resMem b => exact ⟨2, 2, 0, modifyHL_spends s _, priced_resMem b _⟩
  | setReg b r => exact ⟨2, 0, 0, setR8_spends s r _, priced_setReg b r _⟩
  | setMem b => exact ⟨2, 2, 0, modifyHL_spends s _, priced_setMem b _⟩
  | jpCond k nn =>
    have p := priced_jpCond k nn s.f
    unfold jumpIf
    split_ifs at p ⊢
    · exact ⟨3, 0, 1, jumpTo_spends s nn, p⟩
    · exact ⟨3, 0, 0, .refl s, p⟩
  | jrCond k e =>
    have p := priced_jrCond k e s.f
    unfold jumpRelIf
    split_ifs at p ⊢
    · exact ⟨2, 0, 1, jumpTo_spends s _, p⟩
    · exact ⟨2, 0, 0, .refl s, p⟩
  | callCond k nn =>
    have p := priced_callCond k nn s.f
    unfold callIf
    split_ifs at p ⊢
    · exact ⟨3, 2, 1, callTo_spends s nn, p⟩
    · exact ⟨3, 0, 0, .refl s, p⟩
  | retCond k =>
    have p := priced_retCond k s.f
    unfold returnIf
    split_ifs at p ⊢
    · exact ⟨1, 2, 2, (internal_spends s).trans (returnPop_spends _), p⟩
    · exact ⟨1, 0, 1, internal_spends s, p⟩
  | rst y => exact ⟨1, 2, 1, callTo_spends s _, priced_rst y _⟩
  | illegal k => exact ⟨1, 0, 0, .none rfl rfl, priced_illegal k _⟩
  | nop => exact ⟨1, 0, 0, .refl s, priced_fixed rfl rfl (by decide)⟩
  | ld_atBC_a => exact ⟨1, 1, 0, memWrite_spends s _ _, priced_fixed rfl rfl (by decide)⟩
  | rlca => exact ⟨1, 0, 0, .none rfl rfl, priced_fixed rfl rfl (by decide)⟩
  | ld_at16_sp nn =>
    exact ⟨3, 2, 0, (memWrite_spends s nn _).trans (memWrite_spends _ _ _),
      priced_fixed rfl rfl (by decide)⟩
  | ld_a_atBC => exact ⟨1, 1, 0, loadRegAt_spends s .a _, priced_fixed rfl rfl (by decide)⟩
  | rrca => exact ⟨1, 0, 0, .none rfl rfl, priced_fixed rfl rfl (by decide)⟩
  | stop => exact ⟨1, 0, 0, .none rfl rfl, priced_fixed rfl rfl (by decide)⟩
  | ld_atDE_a => exact ⟨1, 1, 0, memWrite_spends s _ _, priced_fixed rfl rfl (by decide)⟩
  | rla => exact ⟨1, 0, 0, .none rfl rfl, priced_fixed rfl rfl (by decide)⟩
  | jr_r8 e => exact ⟨2, 0, 1, jumpTo_spends s _, priced_fixed rfl rfl (by decide)⟩
  | ld_a_atDE => exact ⟨1, 1, 0, loadRegAt_spends s .a _, priced_fixed rfl rfl (by decide)⟩
  | rra => exact ⟨1, 0, 0, .none rfl rfl, priced_fixed rfl rfl (by decide)⟩
  | ld_atHLI_a =>
    exact ⟨1, 1, 0, (memWrite_spends s _ _).withHL _,
      priced_fixed rfl rfl (by decide)⟩
  | daa => exact ⟨1, 0, 0, .none rfl rfl, priced_fixed rfl rfl (by decide)⟩
  | ld_a_atHLI =>
    exact ⟨1, 1, 0, (loadRegAt_spends s .a _).withHL _,
      priced_fixed rfl rfl (by decide)⟩
  | cpl => exact ⟨1, 0, 0, .none rfl rfl, priced_fixed rfl rfl (by decide)⟩
  | ld_atHLD_a =>
    exact ⟨1, 1, 0, (memWrite_spends s _ _).withHL _,
      priced_fixed rfl rfl (by decide)⟩
  | inc_atHL =>
    exact ⟨1, 2, 0, (modifyHL_spends s _).withF _,
      priced_fixed rfl rfl (by decide)⟩
  | dec_atHL =>
    exact ⟨1, 2, 0, (modifyHL_spends s _).withF _,
      priced_fixed rfl rfl (by decide)⟩
  | ld_atHL_d8 n => exact ⟨2, 1, 0, memWrite_spends s _ n, priced_fixed rfl rfl (by decide)⟩
  | scf => exact ⟨1, 0, 0, .none rfl rfl, priced_fixed rfl rfl (by decide)⟩
  | ld_a_atHLD =>
    exact ⟨1, 1, 0, (loadRegAt_spends s .a _).withHL _,
      priced_fixed rfl rfl (by decide)⟩
  | ccf => exact ⟨1, 0, 0, .none rfl rfl, priced_fixed rfl rfl (by decide)⟩
  | halt => exact ⟨1, 0, 0, haltCpu_spends s, priced_fixed rfl rfl (by decide)⟩
  | jp_a16 nn => exact ⟨3, 0, 1, jumpTo_spends s nn, priced_fixed rfl rfl (by decide)⟩
  | ret => exact ⟨1, 2, 1, returnPop_spends s, priced_fixed rfl rfl (by decide)⟩
  | call_a16 nn => exact ⟨3, 2, 1, callTo_spends s nn, priced_fixed rfl rfl (by decide)⟩
  | reti => exact ⟨1, 2, 1, (returnPop_spends s).free rfl rfl, priced_fixed rfl rfl (by decide)⟩
  | ldh_at8_a n => exact ⟨2, 1, 0, memWrite_spends s _ _, priced_fixed rfl rfl (by decide)⟩
  | ldh_atC_a => exact ⟨1, 1, 0, memWrite_spends s _ _, priced_fixed rfl rfl (by decide)⟩
  | add_sp_r8 e =>
    exact ⟨2, 0, 2, ((internal_spends s).trans (internal_spends _)).free rfl rfl,
      priced_fixed rfl rfl (by decide)⟩
  | jp_hl => exact ⟨1, 0, 0, .none rfl rfl, priced_fixed rfl rfl (by decide)⟩
  | ld_at16_a nn => exact ⟨3, 1, 0, memWrite_spends s nn _, priced_fixed rfl rfl (by decide)⟩
  | ldh_a_at8 n => exact ⟨2, 1, 0, loadRegAt_spends s .a _, priced_fixed rfl rfl (by decide)⟩
  | ldh_a_atC => exact ⟨1, 1, 0, loadRegAt_spends s .a _, priced_fixed rfl rfl (by decide)⟩
  | di => exact ⟨1, 0, 0, .none rfl rfl, priced_fixed rfl rfl (by decide)⟩
  | ld_hl_sp_r8 e =>
    exact ⟨2, 0, 1, (internal_spends s).free rfl rfl,
      priced_fixed rfl rfl (by decide)⟩
  | ld_sp_hl => exact ⟨1, 0, 1, (internal_spends s).free rfl rfl, priced_fixed rfl rfl (by decide)⟩
  | ld_a_at16 nn => exact ⟨3, 1, 0, loadRegAt_spends s .a nn, priced_fixed rfl rfl (by decide)⟩
  | ei => exact ⟨1, 0, 0, .none rfl rfl, priced_fixed rfl rfl (by decide)⟩
  | prefixCB => cases hi

/-- The price of the instruction of `op` is the price of `op`: the second byte counts only after 0xCB,
where it is part of the encoding (R211, R215). -/
theorem totalTicks_encode_assemble (op n1 n2 : Byte) (f : Flags) :
    totalTicks op ((encode (assemble op n1 n2)).getD 1 0) f = totalTicks op n1 f := by
  by_cases h : op = 0xCB
  · subst h
    rw [assemble_cb, encode_secondaryInstr]
    rfl
  · simp only [totalTicks, if_neg h]

/-- Settles O14: the M-cycles of every instruction family, and the maps at its encoding. -/
theorem cycleCosts : Obligations.CycleCosts := by
  intro op n1 n2 s
  obtain ⟨t, ht, hr⟩ := exec_ran (assemble op n1 n2) s
  obtain ⟨fetch, acc, int, ⟨hticks, hclocks⟩, hfetch, hprice, hint⟩ :=
    priced_of_ran hr (wellFormed_assemble op n1 n2)
  have hop : (encode (assemble op n1 n2)).getD 0 0 = op := by rw [encode_assemble]; rfl
  rw [hop, totalTicks_encode_assemble] at hprice
  rw [hop] at hint
  exact ⟨t, ht, by omega, by rw [hint]; omega⟩

end Sys2Proof.Proofs
end

section
/-! PROOFS. The fetch: the bytes at PC select the instruction that they decode to (R201), with the halt
bug (R806). -/

namespace Sys2Proof.Proofs

open Sys2Proof.Machine Sys2Proof.Claims Sys2Proof.Laws

/-! ## Bytes that stay where they stand -/

theorem bytesAt_congr {s t : State} {bs : List Byte} {a : Word}
    (h : ∀ x, periphOwned x = false → busByte t x = busByte s x) (hb : BytesAt s a bs) :
    BytesAt t a bs := by
  induction bs generalizing a with
  | nil => trivial
  | cons v vs ih =>
    obtain ⟨hfree, hv, hvs⟩ := hb
    exact ⟨hfree, (h a hfree).trans hv, ih hvs⟩

/-- A read of a byte that is not the Peripherals' delivers it: the tick before it changes nothing there
(R12, R111). -/
theorem memRead_fst_of_bytesAt {s : State} {a : Word} {v : Byte} {vs : List Byte}
    (h : BytesAt s a (v :: vs)) : (memRead s a).1 = v := by
  obtain ⟨hfree, hv, -⟩ := h
  rw [memRead_fst, (accessCycle_waits s).bytes a hfree, hv]

/-! ## Operand bytes -/

/-- From `s` to `t` PC passes `bytes` bytes in `cycles` M-cycles, and the other registers stay. -/
structure Advances (bytes cycles : Nat) (s t : State) : Prop where
  pc : t.pc = s.pc + BitVec.ofNat 16 bytes
  regs : Keeps [] s t
  f : t.f = s.f
  sp : t.sp = s.sp
  waits : Waits cycles s t

theorem Advances.refl (s : State) : Advances 0 0 s s :=
  ⟨by simp, fun _ _ => rfl, rfl, rfl, regsOnly_waits rfl⟩

theorem Advances.trans {k l m n : Nat} {s t u : State} (h : Advances k m s t)
    (h' : Advances l n t u) : Advances (k + l) (m + n) s u :=
  ⟨by rw [h'.pc, h.pc, BitVec.ofNat_add, BitVec.add_assoc],
   fun q hq => (h'.regs q hq).trans (h.regs q hq), h'.f.trans h.f, h'.sp.trans h.sp,
   waits_trans h.waits h'.waits⟩

theorem fetchByte_advances (s : State) : Advances 1 1 s (fetchByte s).2 := by
  refine ⟨fetchByte_pc s, fun q _ => ?_, fetchByte_f s, fetchByte_sp s, ?_⟩
  · cases q <;> simp [r8]
  · rw [fetchByte_snd]
    exact waits_regs (memRead_waits s s.pc) rfl

theorem fetchByte_fst_of_bytesAt {s : State} {v : Byte} {vs : List Byte}
    (h : BytesAt s s.pc (v :: vs)) : (fetchByte s).1 = v := memRead_fst_of_bytesAt h

/-- The bytes after a fetched one stand at the new PC. -/
theorem fetchByte_bytesAt {s : State} {v : Byte} {vs : List Byte} (h : BytesAt s s.pc (v :: vs)) :
    BytesAt (fetchByte s).2 (fetchByte s).2.pc vs := by
  obtain ⟨-, -, hvs⟩ := h
  rw [fetchByte_pc]
  exact bytesAt_congr (fetchByte_advances s).waits.bytes hvs

theorem skip_advances (s : State) : Advances 1 0 s { s with pc := s.pc + 1 } :=
  ⟨rfl, fun q _ => by cases q <;> rfl, rfl, rfl, regsOnly_waits rfl⟩

/-- How many operand bytes a format reads: all but the one that STOP skips (R200, R803). -/
def operandReads : Format → Nat
  | .p1 => 0
  | .p2 => 1
  | .p3 => 2
  | .cb => 1
  | .stop => 0

/-- The operand fetch reads the bytes that make the instruction. -/
theorem fetchOperands_spells {s : State} {op : Byte} {args : List Byte} {i : Instr}
    (h : Spells (op :: args) i) (hb : BytesAt s s.pc args) :
    assemble op (fetchOperands s (formatOf op)).1.1 (fetchOperands s (formatOf op)).1.2 = i ∧
      Advances args.length (operandReads (formatOf op)) s (fetchOperands s (formatOf op)).2 := by
  cases h with
  | p1 hm =>
    rw [hm, fetchOperands]
    exact ⟨rfl, .refl s⟩
  | p2 hm n =>
    rw [hm, fetchOperands, fetchByte_fst_of_bytesAt hb]
    exact ⟨rfl, fetchByte_advances s⟩
  | p3 hm lo hi =>
    rw [hm, fetchOperands, fetchByte_fst_of_bytesAt hb,
      fetchByte_fst_of_bytesAt (fetchByte_bytesAt hb)]
    exact ⟨rfl, (fetchByte_advances s).trans (fetchByte_advances _)⟩
  | cb hm n =>
    rw [hm, fetchOperands, fetchByte_fst_of_bytesAt hb]
    exact ⟨rfl, fetchByte_advances s⟩
  | stop hm skipped =>
    rw [hm, fetchOperands]
    exact ⟨rfl, skip_advances s⟩

theorem fetchCycles_of_ne_stop {i : Instr} (h : i ≠ .stop) : fetchCycles i = instrLength i := by
  unfold fetchCycles
  split
  · exact absurd rfl h
  · rfl

/-- The fetch of an instruction has one M-cycle for the opcode and one for each operand byte read. -/
theorem Spells.fetchCycles {op : Byte} {args : List Byte} {i : Instr} (h : Spells (op :: args) i) :
    fetchCycles i = operandReads (formatOf op) + 1 := by
  by_cases hi : i = .stop
  · subst hi
    obtain ⟨skipped, e⟩ := h.stop_bytes
    obtain rfl := List.head_eq_of_cons_eq e
    rfl
  · rw [fetchCycles_of_ne_stop hi, ← h.length]
    cases h with
    | p1 hm => rw [hm]; rfl
    | p2 hm => rw [hm]; rfl
    | p3 hm => rw [hm]; rfl
    | cb hm => rw [hm]; rfl
    | stop hm =>
      obtain rfl := formatOf_eq_stop.1 hm
      exact absurd rfl hi

/-! ## The opcode -/

/-- What FetchOpcode does beside the halt bug and `opAddr`: one M-cycle (R806). -/
theorem fetchOpcode_waits (s : State) :
    Waits 1 s { (fetchOpcode s).2 with haltBug := s.haltBug, opAddr := s.opAddr } := by
  rw [fetchOpcode_snd]
  exact waits_regs (memRead_waits s s.pc) rfl

theorem fetchOpcode_keeps (s : State) : Keeps [] s (fetchOpcode s).2 := fun q _ => by
  cases q <;> simp [r8]

/-- The two hidden fields that FetchOpcode sets matter to no M-cycle after it. -/
theorem waits_withFetchFields {n : Nat} {s t : State} (h : Waits n s t) (b : Bool) (w : Word) :
    Waits n { s with haltBug := b, opAddr := w } { t with haltBug := b, opAddr := w } := by
  obtain ⟨⟨hime, hei, hhalted, -, hstopped, hfault, -⟩, hcart, hie, hif, hbytes, hticks⟩ := h
  exact ⟨⟨hime, hei, hhalted, rfl, hstopped, hfault, rfl⟩, hcart, hie, hif, hbytes, hticks⟩

/-- What the fetch of `i`, whose bytes are an opcode and `args` more, makes of `s`: PC is past them, the
halt bug is used up, the opcode's address is kept, and M-cycles pass (R201, R806, log 13). -/
structure FetchLeaves (args : Nat) (i : Instr) (s u : State) : Prop where
  pc : u.pc = (fetchOpcode s).2.pc + BitVec.ofNat 16 args
  haltBug : u.haltBug = false
  opAddr : u.opAddr = s.pc
  regs : Keeps [] s u
  f : u.f = s.f
  sp : u.sp = s.sp
  waits : ∀ b, b = s.haltBug →
    Waits (fetchCycles i) s { u with haltBug := b, opAddr := s.opAddr }

/-- The fetch of bytes that spell `i`, with or without the halt bug: the opcode stands at PC, the operands
at the PC that FetchOpcode leaves. -/
theorem fetchInstr_spells {s : State} {op : Byte} {args : List Byte} {i : Instr}
    (h : Spells (op :: args) i) (hop : BytesAt s s.pc [op])
    (hargs : BytesAt s (fetchOpcode s).2.pc args) :
    (fetchInstr s).1 = i ∧ FetchLeaves args.length i s (fetchInstr s).2 := by
  have hfst : (fetchOpcode s).1 = op := memRead_fst_of_bytesAt hop
  have hargs' : BytesAt (fetchOpcode s).2 (fetchOpcode s).2.pc args :=
    bytesAt_congr (fetchOpcode_waits s).bytes hargs
  have hops := fetchOperands_spells h hargs'
  rw [← hfst] at hops
  obtain ⟨hi, hpc, hregs, hF, hsp, hw⟩ := hops
  refine ⟨hi, hpc, hw.hidden.haltBug.trans (fetchOpcode_haltBug s),
    hw.hidden.opAddr.trans (fetchOpcode_opAddr s),
    fun q hq => (hregs q hq).trans (fetchOpcode_keeps s q hq), hF.trans (fetchOpcode_f s),
    hsp.trans (fetchOpcode_sp s), ?_⟩
  rintro _ rfl
  rw [h.fetchCycles, Nat.add_comm, ← hfst]
  exact waits_trans (fetchOpcode_waits s) (waits_withFetchFields hw _ _)

/-! ## The step -/

theorem step_running {s : State} (hf : s.fault = none) (hv : s.cart.variant ≠ .absent)
    (hh : s.halted = false) (hs : s.stopped = false) :
    step s = thenHandle (exec (fetchInstr { s with ticks := 0 }).1
      (fetchInstr { s with ticks := 0 }).2) := by
  simp [step, coreStep, clockCpu, hf, hv, hh, hs]

theorem bytesAt_zeroTicks {s : State} {a : Word} {bs : List Byte} (h : BytesAt s a bs) :
    BytesAt { s with ticks := 0 } a bs :=
  bytesAt_congr (s := s) (fun _ hx => busByte_congr hx rfl rfl rfl) h

theorem keeps_of_zeroTicks {s u : State} (h : Keeps [] { s with ticks := 0 } u) : Keeps [] s u :=
  fun q hq => (h q hq).trans (by cases q <;> rfl)

/-- A step whose bytes spell `i` runs `i` after the fetch, with or without the halt bug. -/
theorem step_spells {s : State} {op : Byte} {args : List Byte} {i : Instr}
    (hf : s.fault = none) (hv : s.cart.variant ≠ .absent) (hh : s.halted = false)
    (hs : s.stopped = false) (h : Spells (op :: args) i) (hop : BytesAt s s.pc [op])
    (hargs : BytesAt s (if s.haltBug then s.pc else s.pc + 1) args) :
    ∃ u, step s = thenHandle (exec i u) ∧ FetchLeaves args.length i { s with ticks := 0 } u := by
  obtain ⟨hi, hu⟩ := fetchInstr_spells (s := { s with ticks := 0 }) h (bytesAt_zeroTicks hop)
    (by rw [fetchOpcode_pc]; exact bytesAt_zeroTicks hargs)
  exact ⟨_, by rw [step_running hf hv hh hs, hi], hu⟩

theorem spells_of_decode_all {bs : List Byte} {i : Instr} (h : decode bs = .ok (i, [])) :
    Spells bs i := by
  obtain ⟨used, e, hs⟩ := spells_of_decode h
  rwa [e, List.append_nil]

/-- Settles O5: the bytes at PC spell the instruction, and the fetch reads them. -/
theorem stepRunsDecodedInstruction : Obligations.StepRunsDecodedInstruction := by
  intro s hf hv hh hs
  refine ⟨fun hbug bs i hd hb => ?_, fun hbug op args i hd hop hb => ?_⟩
  · cases bs with
    | nil => cases hd
    | cons op args =>
      have hi := spells_of_decode_all hd
      obtain ⟨hfree, hbyte, hargs⟩ := hb
      obtain ⟨u, hstep, hpc, hu, haddr, hregs, hF, hsp, hw⟩ :=
        step_spells hf hv hh hs hi ⟨hfree, hbyte, trivial⟩ (by rwa [hbug])
      refine ⟨u, hstep, ?_, haddr, keeps_of_zeroTicks hregs, hF, hsp, hw _ (hu.trans hbug.symm)⟩
      rw [hpc, fetchOpcode_pc, if_neg (by simp [hbug]), ← hi.length, List.length_cons, Nat.add_comm,
        BitVec.ofNat_add, ← BitVec.add_assoc]
      rfl
  · have hi := spells_of_decode_all hd
    obtain ⟨u, hstep, hpc, hu, haddr, hregs, hF, hsp, hw⟩ :=
      step_spells hf hv hh hs hi hop (by rwa [hbug])
    refine ⟨u, hstep, ?_, hu, haddr, keeps_of_zeroTicks hregs, hF, hsp, hw _ hbug.symm⟩
    rw [hpc, fetchOpcode_pc, if_pos hbug, ← hi.length, List.length_cons, BitVec.ofNat_add,
      ← BitVec.add_assoc]
    exact (BitVec.add_sub_cancel _ _).symm

end Sys2Proof.Proofs
end

section
/-! PROOFS. The loads, stores and stack transfers of 40_loads.md: which registers a write leaves alone, the
bytes of a pair, and one lemma for each shape of load, store, push and pop. -/

namespace Sys2Proof.Proofs

open Sys2Proof.Machine Sys2Proof.Claims Sys2Proof.Laws

/-! ## Which registers a register write leaves alone -/

theorem keeps_refl (s : State) : Keeps [] s s := fun _ _ => rfl

theorem keeps_trans {l : List Reg8} {s t u : State} (h : Keeps l s t) (k : Keeps l t u) :
    Keeps l s u :=
  fun q hq => (k q hq).trans (h q hq)

theorem keeps_mono {l m : List Reg8} {s t : State} (h : Keeps l s t) (hlm : l ⊆ m) : Keeps m s t :=
  fun q hq => h q fun hl => hq (hlm hl)

/-- A write of `l` after operations that changed no register changes `l` alone. -/
theorem keeps_after {l : List Reg8} {s t u : State} (h : Keeps [] s t) (k : Keeps l t u) :
    Keeps l s u :=
  keeps_trans (keeps_mono h (List.nil_subset l)) k

theorem setR8_keeps (s : State) (q : Reg8) (v : Byte) : Keeps [q] s (setR8 s q v) :=
  fun r hr => r8_setR8_other s q r v fun e => hr (List.mem_singleton.mpr e)

theorem setHL_keeps (s : State) (w : Word) : Keeps [.h, .l] s (setHL s w) := fun q hq => by
  cases q <;> simp_all [r8]

/-- F and SP are none of A to L. -/
theorem keeps_withF {l : List Reg8} {s t : State} (h : Keeps l s t) (g : Flags) :
    Keeps l s { t with f := g } :=
  fun q hq => (h q hq).symm ▸ by cases q <;> rfl

theorem keeps_withSp {l : List Reg8} {s t : State} (h : Keeps l s t) (w : Word) :
    Keeps l s { t with sp := w } :=
  fun q hq => (h q hq).symm ▸ by cases q <;> rfl

theorem setR16_keeps (s : State) (p : Reg16) (w : Word) : Keeps (halves p) s (setR16 s p w) := by
  cases p
  case hl => exact setHL_keeps s w
  case sp => exact keeps_withSp (keeps_refl s) w
  all_goals
    intro q hq
    cases q <;> simp_all [halves, setR16, r8]

/-- BC, DE and HL are written as by `setR16`; AF's write reaches A and F. -/
theorem setStk16_keeps (s : State) (p : StkReg) (w : Word) :
    Keeps (stkHalves p) s (setStk16 s p w) := by
  cases p
  case bc => exact setR16_keeps s .bc w
  case de => exact setR16_keeps s .de w
  case hl => exact setR16_keeps s .hl w
  case af => exact keeps_withF (setR8_keeps s .a (hi8 w)) (flagsOfByte (lo8 w))

theorem popWord_keeps (s : State) : Keeps [] s (popWord s).2 := fun q _ => by
  cases q <;> simp [r8]

/-! ## The bytes of a pair, addresses and displacements, as numbers -/

theorem hi8_toNat (w : Word) : (hi8 w).toNat = w.toNat / 256 := by
  rw [hi8, BitVec.extractLsb'_toNat, Nat.shiftRight_eq_div_pow]
  omega

theorem lo8_toNat (w : Word) : (lo8 w).toNat = w.toNat % 256 := by
  simp [lo8]

theorem highPage_eq (n : Byte) : highPage n = BitVec.ofNat 16 (0xFF00 + n.toNat) := by
  apply BitVec.eq_of_toNat_eq
  simp [highPage]

/-- A 16-bit sum with a step that may be negative, as an integer sum modulo 2^16. -/
theorem add_ofInt (w : Word) (i : Int) :
    w + BitVec.ofInt 16 i = BitVec.ofInt 16 (w.toNat + i) := by
  rw [BitVec.ofInt_add, BitVec.ofInt_natCast, BitVec.ofNat_toNat, BitVec.setWidth_eq]

theorem add_sext16 (w : Word) (e : Byte) : w + sext16 e = displaced w e := add_ofInt w e.toInt

theorem spOffsetFlags_lo8 (sp : Word) (e : Byte) : spOffsetFlags (lo8 sp) e = offsetSpec sp e := by
  have h : hcAdd8 (lo8 sp) e false = decide (16 ≤ sp.toNat % 16 + e.toNat % 16) := by
    simp only [hcAdd8, lo8_toNat, Bool.toNat_false, decide_eq_decide]
    omega
  have c : cyAdd8 (lo8 sp) e false = decide (256 ≤ sp.toNat % 256 + e.toNat) := by
    simp only [cyAdd8, lo8_toNat, Bool.toNat_false, decide_eq_decide]
    omega
  rw [spOffsetFlags, h, c, offsetSpec]

/-- F as a byte shows each flag in its bit over a zero nibble (R51, R55). -/
theorem showsFlags_flagsByte (f : Flags) : ShowsFlags (flagsByte f) f := by
  obtain ⟨z, n, h, c⟩ := f
  unfold ShowsFlags
  revert z n h c
  decide

theorem pairHolds_setR16 (s : State) (p : Reg16) (w : Word) : PairHolds (setR16 s p w) p w := by
  cases p
  case sp => rfl
  all_goals exact ⟨hi8_toNat w, lo8_toNat w⟩

/-! ## Loads and stores of one byte -/

/-- Settles O33: the load is the write of one register. -/
theorem loadRegisterFromRegister : Obligations.LoadRegisterFromRegister := fun q r s =>
  ⟨_, exec_loadRegReg q r s, r8_setR8_self s q _, setR8_keeps s q _, setR8_f s q _, setR8_sp s q _,
    setR8_pc s q _, setR8_regsOnly s q _⟩

/-- Settles O34: the load is the write of one register, or of one pair. -/
theorem loadImmediates : Obligations.LoadImmediates := by
  refine ⟨fun q n s => ?_, fun p nn s => ?_⟩
  · exact ⟨_, exec_loadImm q n s, r8_setR8_self s q n, setR8_keeps s q n, setR8_f s q n,
      setR8_sp s q n, setR8_pc s q n, setR8_regsOnly s q n⟩
  · have hsp : p ≠ .sp → (setR16 s p nn).sp = s.sp := fun hp => by
      cases p
      case sp => exact absurd rfl hp
      all_goals rfl
    exact ⟨_, exec_loadPair p nn s, r16_setR16_self s p nn, pairHolds_setR16 s p nn,
      setR16_keeps s p nn, hsp, setR16_f s p nn, setR16_pc s p nn, setR16_regsOnly s p nn⟩

theorem loadRegAt_keeps (s : State) (q : Reg8) (a : Word) : Keeps [q] s (loadRegAt s q a) :=
  keeps_after (memRead_regs s a).regs (setR8_keeps _ q _)

theorem loadRegAt_waits (s : State) (q : Reg8) (a : Word) : Waits 1 s (loadRegAt s q a) :=
  waits_regs (memRead_waits s a) (setR8_regsOnly _ q _)

/-- An instruction that is a load of a register from an address, in the words of the statements. -/
theorem loadsFrom_of_exec {i : Instr} {s : State} {q : Reg8} {a : Word}
    (h : exec i s = .next (loadRegAt s q a)) : LoadsFrom i s q a := by
  have hval : r8 (loadRegAt s q a) q = busByte (accessCycle s) a := r8_setR8_self _ q _
  exact ⟨_, h, hval, fun ha => hval.trans ((accessCycle_waits s).bytes a ha), loadRegAt_keeps s q a,
    setR8_f _ q _, setR8_sp _ q _, setR8_pc _ q _, loadRegAt_waits s q a⟩

/-- Settles O35: each is `loadRegAt` at its address. -/
theorem loadsFromMemory : Obligations.LoadsFromMemory := by
  intro s q n nn
  rw [← highPage_eq, ← highPage_eq]
  exact ⟨loadsFrom_of_exec (exec_loadMem q s), loadsFrom_of_exec rfl, loadsFrom_of_exec rfl,
    loadsFrom_of_exec rfl, loadsFrom_of_exec rfl, loadsFrom_of_exec rfl⟩

/-- An instruction that is a store at an address, in the words of the statements. -/
theorem storesTo_of_exec {i : Instr} {s : State} {a : Word} {v : Byte}
    (h : exec i s = .next (storeAt s a v)) : StoresTo i s a v :=
  ⟨_, h, memWrite_store s a v⟩

/-- Settles O36: each is `storeAt` at its address. -/
theorem storesOfOneByte : Obligations.StoresOfOneByte := by
  intro s r n nn
  rw [← highPage_eq, ← highPage_eq]
  exact ⟨storesTo_of_exec (exec_storeReg r s), storesTo_of_exec rfl, storesTo_of_exec rfl,
    storesTo_of_exec rfl, storesTo_of_exec rfl, storesTo_of_exec rfl, storesTo_of_exec rfl⟩

/-- Settles O38: the two stores in order; the first leaves SP, whose high byte the second stores. -/
theorem storeStackPointer : Obligations.StoreStackPointer := by
  intro s nn
  rw [← lo8_eq_lowByte, ← hi8_eq_highByte]
  exact ⟨memWrite s nn (lo8 s.sp), storeSP s nn, rfl, memWrite_store s nn _, memWrite_store _ (nn + 1) _⟩

/-! ## Loads and stores that step HL -/

/-- The load of A at HL, then HL moved by `i` (R315, R317). -/
theorem loadAStep_spec (s : State) (i : Int) :
    (loadAStep s (BitVec.ofInt 16 i)).a = busByte (accessCycle s) (regHL s) ∧
      regHL (loadAStep s (BitVec.ofInt 16 i)) = BitVec.ofInt 16 ((regHL s).toNat + i) ∧
      Keeps [.a, .h, .l] s (loadAStep s (BitVec.ofInt 16 i)) ∧
      Waits 1 s (loadAStep s (BitVec.ofInt 16 i)) := by
  refine ⟨rfl, (regHL_setHL _ _).trans (add_ofInt _ i), ?_, waits_regs (loadRegAt_waits s .a _) rfl⟩
  exact keeps_trans (keeps_mono (loadRegAt_keeps s .a _) (by simp))
    (keeps_mono (setHL_keeps _ _) (by simp))

/-- The store of A at HL, then HL moved by `i` (R316, R318). -/
theorem storeAStep_spec (s : State) (i : Int) :
    ∃ m, StoreCycle s m (regHL s) s.a ∧
      storeAStep s (BitVec.ofInt 16 i) = setHL m (BitVec.ofInt 16 ((regHL s).toNat + i)) :=
  ⟨storeAt s (regHL s) s.a, memWrite_store s _ _, by rw [← add_ofInt, storeAStep]⟩

/-- Settles O37: both directions are one shape, at the step 1 and at the step -1. -/
theorem loadsAndStoresThatStepHL : Obligations.LoadsAndStoresThatStepHL := by
  intro s c hc
  obtain ⟨hload, hstore⟩ : exec c.1 s = .next (loadAStep s (BitVec.ofInt 16 c.2.2)) ∧
      exec c.2.1 s = .next (storeAStep s (BitVec.ofInt 16 c.2.2)) := by
    fin_cases hc <;> exact ⟨rfl, rfl⟩
  constructor
  · obtain ⟨ha, hHL, hkeeps, hwaits⟩ := loadAStep_spec s c.2.2
    exact ⟨_, hload, ha, hHL, hkeeps, rfl, rfl, rfl, hwaits⟩
  · obtain ⟨m, hm, ht⟩ := storeAStep_spec s c.2.2
    exact ⟨m, _, hstore.trans (congrArg _ ht), hm, regHL_setHL m _, setHL_keeps m _, rfl, rfl, rfl,
      rfl⟩

/-! ## The stack pointer -/

theorem regHL_loadHLOffset (s : State) (e : Byte) :
    regHL (loadHLOffset s e) = displaced s.sp e :=
  (mkWord_halves (s.sp + sext16 e)).trans (add_sext16 s.sp e)

theorem loadHLOffset_keeps (s : State) (e : Byte) : Keeps [.h, .l] s (loadHLOffset s e) :=
  keeps_withF (keeps_after (internal_regs s).regs (setHL_keeps _ _)) (spOffsetFlags (lo8 s.sp) e)

theorem addToSP_keeps (s : State) (e : Byte) : Keeps [] s (addToSP s e) :=
  have two : Keeps [] s (internal (internal s)) :=
    keeps_trans (internal_regs s).regs (internal_regs _).regs
  keeps_withF (keeps_withSp two (s.sp + sext16 e)) (spOffsetFlags (lo8 s.sp) e)

theorem addToSP_waits (s : State) (e : Byte) : Waits 2 s (addToSP s e) :=
  have two : Waits 2 s (internal (internal s)) :=
    waits_trans (internal_waits s) (internal_waits (internal s))
  waits_regs two rfl

/-- Settles O39: internal M-cycles keep every register, and then SP, or HL and F, are written. -/
theorem stackPointerArithmetic : Obligations.StackPointerArithmetic := by
  intro s e
  refine ⟨⟨copyHLtoSP s, rfl, rfl, ?_⟩, ⟨loadHLOffset s e, rfl, ?_⟩, ⟨addToSP s e, rfl, ?_⟩⟩
  · exact ⟨keeps_withSp (internal_regs s).regs _, rfl, rfl, waits_regs (internal_waits s) rfl⟩
  · exact ⟨regHL_loadHLOffset s e, spOffsetFlags_lo8 s.sp e, loadHLOffset_keeps s e,
      by simp [loadHLOffset], by simp [loadHLOffset], waits_regs (internal_waits s) rfl⟩
  · exact ⟨add_sext16 s.sp e, spOffsetFlags_lo8 s.sp e, addToSP_keeps s e, by simp [addToSP],
      addToSP_waits s e⟩

/-! ## PUSH -/

/-- What a 16-bit push does beside the two stored bytes: SP falls by two, 8 ticks pass, and no byte
outside the reach of the two stores changes. -/
structure PushLeaves (s t : State) : Prop where
  sp : t.sp = s.sp - 2
  regs : Keeps [] s t
  f : t.f = s.f
  pc : t.pc = s.pc
  hidden : SameHidden s t
  ticks : t.ticks = s.ticks + 8
  frame : ∀ x, periphOwned x = false → storeReach (s.sp - 1) x = false →
    storeReach (s.sp - 2) x = false → busByte t x = busByte s x

theorem sub_one_sub_one (w : Word) : w - 1 - 1 = w - 2 := by bv_omega

/-- The move of SP before a byte push. -/
theorem withSp_waits (s : State) (w : Word) : Waits 0 s { s with sp := w } := regsOnly_waits rfl

theorem pushes_keeps {s t : State} {v : Byte} (h : Pushes s t v) : Keeps [] s t :=
  keeps_trans (keeps_withSp (keeps_refl s) _) h.regs.regs

theorem pushes_hidden {s t : State} {v : Byte} (h : Pushes s t v) : SameHidden s t :=
  sameHidden_trans (withSp_waits s _).hidden h.hidden

/-- A byte push changes no byte outside the reach of its store. -/
theorem pushes_frame {s t : State} {v : Byte} (h : Pushes s t v) {x : Word}
    (hx : periphOwned x = false) (hr : storeReach (s.sp - 1) x = false) :
    busByte t x = busByte s x :=
  (StoreCycle.frame h x hx hr).trans ((withSp_waits s _).bytes x hx)

theorem pushesWord_leaves {s t : State} {w : Word} (h : PushesWord s t w) : PushLeaves s t := by
  have hsp : t.sp = s.sp - 2 := (pushesWord_sp h).trans (sub_one_sub_one s.sp)
  obtain ⟨m, high, low⟩ := h
  have hm : m.sp = s.sp - 1 := high.regs.sp
  refine ⟨hsp, keeps_trans (pushes_keeps high) (pushes_keeps low), low.regs.f.trans high.regs.f,
    low.regs.pc.trans high.regs.pc, sameHidden_trans (pushes_hidden high) (pushes_hidden low), ?_, ?_⟩
  · exact low.ticks.trans (congrArg (· + 4) high.ticks)
  · intro x hx h1 h2
    rw [← sub_one_sub_one, ← hm] at h2
    exact (pushes_frame low hx h2).trans (pushes_frame high hx h1)

/-- A push after one internal M-cycle: 4 ticks more, and the M-cycle stores nothing. -/
theorem pushesWord_after_internal {s t : State} {w : Word} (h : PushesWord (internal s) t w) :
    t.sp = s.sp - 2 ∧ Keeps [] s t ∧ t.f = s.f ∧ t.pc = s.pc ∧ SameHidden s t ∧
      t.ticks = s.ticks + 12 ∧
      ∀ x, periphOwned x = false → storeReach (s.sp - 1) x = false →
        storeReach (s.sp - 2) x = false → busByte t x = busByte s x := by
  obtain ⟨hsp, hregs, hf, hpc, hhidden, hticks, hframe⟩ := pushesWord_leaves h
  have w1 := internal_waits s
  exact ⟨hsp, keeps_trans (internal_regs s).regs hregs, hf, hpc, sameHidden_trans w1.hidden hhidden,
    hticks, fun x hx h1 h2 => (hframe x hx h1 h2).trans (w1.bytes x hx)⟩

/-- The bytes pushed for a pair are its two registers, or A and the byte of F (R52, R55). -/
theorem pushedBytes_stk16 (s : State) (p : StkReg) :
    PushedBytes s p (highByte (stk16 s p)) (lowByte (stk16 s p)) := by
  rw [← hi8_eq_highByte, ← lo8_eq_lowByte]
  cases p
  case af => exact ⟨hi8_mkWord _ _, (lo8_mkWord s.a _).symm ▸ showsFlags_flagsByte s.f⟩
  all_goals exact ⟨hi8_mkWord _ _, lo8_mkWord _ _⟩

/-- Settles O40: the push of the pair's value after one internal M-cycle. -/
theorem pushStoresThePair : Obligations.PushStoresThePair := by
  intro s p
  have h : PushesWord (internal s) (pushPair s p) (stk16 s p) := pushWord_pushes _ _
  exact ⟨pushPair s p, exec_push p s, h, pushedBytes_stk16 s p, pushesWord_after_internal h⟩

/-! ## POP -/

/-- The pops of `s` deliver the byte at SP and, one M-cycle later, the byte at SP+1 (R108). -/
theorem popWord_popsValue (s : State) : PopsValue s (popWord s).1 := by
  have low : lowByte (popWord s).1 = busByte (accessCycle s) s.sp := by
    rw [← lo8_eq_lowByte, popWord_fst, lo8_mkWord, popByte_fst]
  have high : highByte (popWord s).1 = busByte (accessCycle (memRead s s.sp).2) (s.sp + 1) := by
    rw [← hi8_eq_highByte, popWord_fst, hi8_mkWord, popByte_fst, popByte_sp]
    rfl
  have second : Waits 2 s (accessCycle (memRead s s.sp).2) :=
    waits_trans (memRead_waits s s.sp) (accessCycle_waits _)
  exact ⟨low, high, fun h => low.trans ((accessCycle_waits s).bytes _ h),
    fun h => high.trans (second.bytes _ h)⟩

theorem stk16_setStk16_self (s : State) {p : StkReg} (hp : p ≠ .af) (w : Word) :
    stk16 (setStk16 s p w) p = w := by
  cases p
  case af => exact absurd rfl hp
  all_goals exact mkWord_halves w

theorem setStk16_f (s : State) {p : StkReg} (hp : p ≠ .af) (w : Word) :
    (setStk16 s p w).f = s.f := by
  cases p
  case af => exact absurd rfl hp
  all_goals rfl

theorem poppedInto_setStk16 (s : State) (p : StkReg) (w : Word) :
    PoppedInto (setStk16 s p w) p (highByte w) (lowByte w) := by
  rw [← hi8_eq_highByte, ← lo8_eq_lowByte]
  cases p <;> exact ⟨rfl, rfl⟩

/-- Settles O41: two pops and the write of the pair; only POP AF's write reaches F. -/
theorem popLoadsThePair : Obligations.PopLoadsThePair := by
  intro s p
  have hsp : (popPair s p).sp = s.sp + 2 := by
    simp [popPair, BitVec.add_assoc]
  exact ⟨(popWord s).1, popPair s p, exec_pop p s, popWord_popsValue s, hsp,
    keeps_after (popWord_keeps s) (setStk16_keeps _ p _), by simp [popPair],
    waits_regs (popWord_waits s) (setStk16_regsOnly _ p _),
    fun hp => ⟨stk16_setStk16_self _ hp _, (setStk16_f _ hp _).trans (by simp)⟩,
    poppedInto_setStk16 _ p _⟩

end Sys2Proof.Proofs
end

section
/-! PROOFS. The 8-bit arithmetic and logic of 41_alu8.md: the words and flags as numbers and bits,
one frame for the instructions that write a register and F, and DAA on packed decimals digit by digit. -/

namespace Sys2Proof.Proofs

open Sys2Proof.Machine Sys2Proof.Claims Sys2Proof.Laws

/-! ## Words and flags as numbers -/

theorem carryByte_toNat (c : Bool) : (carryByte c).toNat = c.toNat := by
  cases c <;> rfl

theorem byte_sub_toNat (a b : Byte) : (a - b).toNat = (a.toNat + 256 - b.toNat) % 256 := by
  have hb := b.isLt
  rw [BitVec.toNat_sub]
  omega

theorem byte_eqZero_toNat (v : Byte) : (v == 0) = (v.toNat == 0) := by
  rw [Bool.eq_iff_iff, beq_iff_eq, beq_iff_eq, ← BitVec.toNat_inj]
  rfl

theorem addFlags_fst_toNat (a b : Byte) (c : Bool) :
    (addFlags a b c).1.toNat = (a.toNat + b.toNat + c.toNat) % 256 := by
  simp only [addFlags, BitVec.toNat_add, carryByte_toNat]
  omega

theorem addFlags_snd (a b : Byte) (c : Bool) :
    (addFlags a b c).2 = sumFlags a.toNat b.toNat c.toNat := by
  have hz : (addFlags a b c).2.z = ((a.toNat + b.toNat + c.toNat) % 256 == 0) := by
    rw [← addFlags_fst_toNat]
    exact byte_eqZero_toNat _
  exact congrArg (Flags.mk · false (hcAdd8 a b c) (cyAdd8 a b c)) hz

theorem subFlags_fst_toNat (a b : Byte) (c : Bool) :
    (subFlags a b c).1.toNat = (a.toNat + 512 - b.toNat - c.toNat) % 256 := by
  have hb := b.isLt
  have hc := c.toNat_le
  simp only [subFlags, byte_sub_toNat, carryByte_toNat]
  omega

theorem subFlags_snd (a b : Byte) (c : Bool) :
    (subFlags a b c).2 = differenceFlags a.toNat b.toNat c.toNat := by
  have hz : (subFlags a b c).2.z = ((a.toNat + 512 - b.toNat - c.toNat) % 256 == 0) := by
    rw [← subFlags_fst_toNat]
    exact byte_eqZero_toNat _
  exact congrArg (Flags.mk · true (hcSub8 a b c) (cySub8 a b c)) hz

theorem incFlags_eq (f : Flags) (v : Byte) : incFlags f v = incSpec f v := by
  rw [incFlags, byte_eqZero_toNat, BitVec.toNat_add]
  rfl

theorem decFlags_eq (f : Flags) (v : Byte) : decFlags f v = decSpec f v := by
  have hz : (v - 1 == 0) = (v.toNat == 1) := by
    have hv := v.isLt
    have hsub : (v - 1).toNat = (v.toNat + 256 - 1) % 256 := byte_sub_toNat v 1
    rw [byte_eqZero_toNat, hsub, Bool.eq_iff_iff, beq_iff_eq, beq_iff_eq]
    omega
  rw [decFlags, hz, decSpec]

/-- The model's result and flags are those of the arithmetic over numbers and the logic over bits. -/
theorem aluSpec_compute (o : AluOp) (a b : Byte) (c : Bool) :
    AluSpec o a b c (aluA o a b c) (aluFlags o a b c) := by
  cases o with
  | add => exact ⟨addFlags_fst_toNat a b false, addFlags_snd a b false⟩
  | adc => exact ⟨addFlags_fst_toNat a b c, addFlags_snd a b c⟩
  | sub =>
    refine ⟨(subFlags_fst_toNat a b false).trans ?_, subFlags_snd a b false⟩
    have hb := b.isLt
    rw [Bool.toNat_false]
    omega
  | sbc => exact ⟨subFlags_fst_toNat a b c, subFlags_snd a b c⟩
  | and => exact ⟨fun i => BitVec.getLsbD_and, rfl⟩
  | xor => exact ⟨fun i => BitVec.getLsbD_xor, rfl⟩
  | or => exact ⟨fun i => BitVec.getLsbD_or, rfl⟩
  | cp => exact ⟨rfl, subFlags_snd a b false⟩

/-! ## One register and F written -/

theorem r8_setR8_withF (s : State) (q : Reg8) (v : Byte) (g : Flags) :
    r8 { setR8 s q v with f := g } q = v := by
  cases q <;> rfl

/-- What a write of one register and F leaves alone. -/
theorem setR8_withF_frame (s : State) (q : Reg8) (v : Byte) (g : Flags) :
    Keeps [q] s { setR8 s q v with f := g } ∧ (setR8 s q v).sp = s.sp ∧ (setR8 s q v).pc = s.pc ∧
      RegsOnly s { setR8 s q v with f := g } :=
  ⟨keeps_withF (setR8_keeps s q v) g, setR8_sp s q v, setR8_pc s q v, by cases q <;> rfl⟩

/-- An ALU operation is a write of A and F. -/
theorem aluWith_frame (s : State) (o : AluOp) (v : Byte) :
    Keeps [.a] s (aluWith s o v) ∧ (aluWith s o v).sp = s.sp ∧ (aluWith s o v).pc = s.pc ∧
      RegsOnly s (aluWith s o v) :=
  setR8_withF_frame s .a _ _

/-- The (HL) form: the operation after one MemRead. -/
theorem aluMemHL_frame (s : State) (o : AluOp) :
    Keeps [.a] s (aluMemHL s o) ∧ (aluMemHL s o).sp = s.sp ∧ (aluMemHL s o).pc = s.pc ∧
      Waits 1 s (aluMemHL s o) := by
  obtain ⟨hkeeps, hsp, hpc, honly⟩ :=
    aluWith_frame (memRead s (regHL s)).2 o (memRead s (regHL s)).1
  exact ⟨keeps_after (memRead_regs s _).regs hkeeps, hsp, hpc, waits_regs (memRead_waits s _) honly⟩

/-- Settles O42: the three operand forms write the result and flags that `aluSpec_compute` gives. -/
theorem aluComputesResultAndFlags : Obligations.AluComputesResultAndFlags := fun o r n s =>
  ⟨⟨_, exec_aluReg o r s, aluSpec_compute o s.a (r8 s r) s.f.c, aluWith_frame s o _⟩,
    ⟨_, exec_aluImm o n s, aluSpec_compute o s.a n s.f.c, aluWith_frame s o n⟩,
    ⟨_, exec_aluMem o s, aluSpec_compute o s.a _ s.f.c, aluMemHL_frame s o⟩⟩

/-! ## INC and DEC -/

/-- Settles O43: the write of one register, and of the flags with C kept. -/
theorem incDecRegister : Obligations.IncDecRegister := by
  intro r s
  constructor
  · have hval : (r8 (incReg8 s r) r).toNat = ((r8 s r).toNat + 1) % 256 :=
      (congrArg BitVec.toNat (r8_setR8_withF s r _ _)).trans (BitVec.toNat_add _ _)
    exact ⟨_, exec_incReg r s, hval, incFlags_eq s.f _, setR8_withF_frame s r _ _⟩
  · have hval : (r8 (decReg8 s r) r).toNat = ((r8 s r).toNat + 255) % 256 :=
      (congrArg BitVec.toNat (r8_setR8_withF s r _ _)).trans (byte_sub_toNat _ 1)
    exact ⟨_, exec_decReg r s, hval, decFlags_eq s.f _, setR8_withF_frame s r _ _⟩

/-- An instruction that is `modifyHL` with new flags, in the words of the statements: a MemRead, then the
store of one M-cycle (R172). -/
theorem readsThenWrites_of_exec {i : Instr} {s : State} {g : Byte → Byte} {G : Byte → Byte → Prop}
    {f' : Byte → Byte → Flags} (hg : ∀ v, G v (g v))
    (h : exec i s = .next { modifyHL s g with
      f := f' (memRead s (regHL s)).1 (g (memRead s (regHL s)).1) }) :
    ReadsThenWrites i s G f' :=
  ⟨_, modifyHL s g, _, h, hg _, memRead_regs s _, memRead_waits s _, memWrite_store _ _ _, rfl⟩

/-- Settles O44: both are `modifyHL` with the flags of the register forms. -/
theorem incDecMemory : Obligations.IncDecMemory := by
  intro s
  constructor
  · refine readsThenWrites_of_exec (g := (· + 1)) (fun v => BitVec.toNat_add v 1) ?_
    rw [← incFlags_eq]
    rfl
  · refine readsThenWrites_of_exec (g := (· - 1)) (fun v => byte_sub_toNat v 1) ?_
    rw [← decFlags_eq]
    rfl

/-! ## DAA -/

/-- A conditional step of a byte, as a number. -/
theorem toNat_ite_add (p : Prop) [Decidable p] (a k : Byte) :
    (if p then a + k else a).toNat = if p then (a.toNat + k.toNat) % 256 else a.toNat := by
  split
  · exact BitVec.toNat_add a k
  · rfl

theorem toNat_ite_sub (p : Prop) [Decidable p] (a k : Byte) :
    (if p then a - k else a).toNat = if p then (a.toNat + 256 - k.toNat) % 256 else a.toNat := by
  split
  · exact byte_sub_toNat a k
  · rfl

theorem daaHigh_eq (a : Byte) (c : Bool) :
    daaHigh a c = (if c || decide (0x99 < a.toNat) then a + 0x60 else a,
      c || decide (0x99 < a.toNat)) := by
  cases c
  · by_cases h : 0x99 < a.toNat <;> simp [daaHigh, h]
  · rfl

/-- DAA's result and carry are those of the algorithm over numbers (R428). -/
theorem daaCompute_daaSpec (a : Byte) (f : Flags) :
    (daaCompute a f).1.toNat = (daaSpec a.toNat f).1 ∧
      (daaCompute a f).2.c = (daaSpec a.toNat f).2 := by
  cases hn : f.n
  · simp [daaCompute, daaSpec, hn, daaHigh_eq, daaLow, toNat_ite_add]
  · simp [daaCompute, daaSpec, hn, toNat_ite_sub]

/-- Settles O45: DAA writes A and F, with the A and the carry that `daaCompute_daaSpec` gives. -/
theorem daaAdjustsA : Obligations.DaaAdjustsA := by
  intro s
  obtain ⟨ha, hc⟩ := daaCompute_daaSpec s.a s.f
  exact ⟨_, rfl, ha, congrArg (Flags.mk _ s.f.n false) hc, setR8_withF_frame s .a _ _⟩

/-! ## DAA on packed decimals -/

/-- The byte of a number below 100 as two decimal digits, the tens in the high nibble. -/
def packed (d : Nat) : Nat := 16 * (d / 10) + d % 10

theorem bcdValue_lt {v : Byte} (h : isBcd v = true) : bcdValue v < 100 := by
  simp only [isBcd, Bool.and_eq_true, decide_eq_true_eq] at h
  unfold bcdValue
  omega

theorem packed_bcdValue {v : Byte} (h : isBcd v = true) : packed (bcdValue v) = v.toNat := by
  simp only [isBcd, Bool.and_eq_true, decide_eq_true_eq] at h
  unfold packed bcdValue
  omega

/-- A byte that is packed from a number below 100 is a packed decimal and has that value. -/
theorem isBcd_of_packed {v : Byte} {d : Nat} (hd : d < 100) (h : v.toNat = packed d) :
    isBcd v = true ∧ bcdValue v = d := by
  unfold packed at h
  simp only [isBcd, bcdValue, Bool.and_eq_true, decide_eq_true_eq]
  omega

/-- A packed sum passes 0x99 exactly when the decimal sum reaches 100. -/
theorem packed_sum_gt {m n c : Nat} (hc : c ≤ 1) :
    0x99 < packed m + packed n + c ↔ 100 ≤ m + n + c := by
  unfold packed
  omega

/-- The 0x60 step follows a packed sum exactly when the decimal sum reaches 100. -/
theorem sum_adjusts_high {m n c : Nat} (hm : m < 100) (hn : n < 100) (hc : c ≤ 1) :
    ((sumFlags (packed m) (packed n) c).c || decide (0x99 < (packed m + packed n + c) % 256)) =
      decide (100 ≤ m + n + c) := by
  have hbound : packed m + packed n + c < 256 + 0x99 := by
    unfold packed
    omega
  rw [sumFlags, ← Bool.decide_or, decide_eq_decide, ← packed_sum_gt hc]
  omega

/-- The 0x06 step follows a packed sum exactly when the low digits carry: the 0x60 step, which comes
first, leaves the low nibble `r % 16` as it was. -/
theorem sum_adjusts_low {m n c r : Nat} (hc : c ≤ 1)
    (hr : r % 16 = (packed m + packed n + c) % 16) :
    ((sumFlags (packed m) (packed n) c).h || decide (9 < r % 16)) =
      decide (10 ≤ m % 10 + n % 10 + c) := by
  rw [hr, sumFlags, ← Bool.decide_or, decide_eq_decide]
  unfold packed
  omega

/-- DAA makes the packed decimal sum, modulo 100, of the binary sum of two packed decimals. -/
theorem daaSpec_sum {m n c : Nat} (hm : m < 100) (hn : n < 100) (hc : c ≤ 1) :
    daaSpec ((packed m + packed n + c) % 256) (sumFlags (packed m) (packed n) c) =
      (packed ((m + n + c) % 100), decide (100 ≤ m + n + c)) := by
  have hN : (sumFlags (packed m) (packed n) c).n = false := rfl
  simp only [daaSpec, hN, Bool.false_eq_true, if_false, sum_adjusts_high hm hn hc, decide_eq_true_eq]
  rw [sum_adjusts_low hc (by split <;> omega)]
  simp only [decide_eq_true_eq, Prod.mk.injEq, and_true]
  unfold packed
  split_ifs <;> omega

/-- A packed difference borrows exactly when the decimal difference does. -/
theorem difference_borrows {m n c : Nat} (hc : c ≤ 1) :
    (differenceFlags (packed m) (packed n) c).c = decide (m < n + c) := by
  rw [differenceFlags, decide_eq_decide]
  unfold packed
  omega

/-- A packed difference borrows at bit 3 exactly when the low digits do. -/
theorem difference_half_borrows {m n c : Nat} :
    (differenceFlags (packed m) (packed n) c).h = decide (m % 10 < n % 10 + c) := by
  rw [differenceFlags, decide_eq_decide]
  unfold packed
  omega

/-- DAA makes the packed decimal difference, modulo 100, of the binary difference of two packed
decimals. -/
theorem daaSpec_difference {m n c : Nat} (hm : m < 100) (hn : n < 100) (hc : c ≤ 1) :
    daaSpec ((packed m + 512 - packed n - c) % 256) (differenceFlags (packed m) (packed n) c) =
      (packed ((m + 200 - n - c) % 100), decide (m < n + c)) := by
  have hN : (differenceFlags (packed m) (packed n) c).n = true := rfl
  simp only [daaSpec, hN, if_true, difference_borrows hc, difference_half_borrows,
    decide_eq_true_eq, Prod.mk.injEq, and_true]
  unfold packed
  split_ifs <;> omega

/-- DAA where its algorithm gives a packed decimal `d` and a carry `b`. -/
theorem daa_of_packed {t : State} {d : Nat} {b : Bool} (hd : d < 100)
    (h : daaSpec t.a.toNat t.f = (packed d, b)) :
    ∃ u, exec .daa t = .next u ∧ isBcd u.a = true ∧ bcdValue u.a = d ∧ u.f.c = b := by
  obtain ⟨ha, hc⟩ := daaCompute_daaSpec t.a t.f
  rw [h] at ha hc
  obtain ⟨hbcd, hvalue⟩ := isBcd_of_packed hd ha
  exact ⟨_, rfl, hbcd, hvalue, hc⟩

/-- Settles O46: ADC and SBC make the sum and the difference that `daaSpec_sum` and
`daaSpec_difference` adjust. -/
theorem daaGivesDecimalResults : Obligations.DaaGivesDecimalResults := by
  intro s n ha hn
  have hc := s.f.c.toNat_le
  constructor
  · obtain ⟨hsum, hflags⟩ := aluSpec_compute .adc s.a n s.f.c
    rw [← packed_bcdValue ha, ← packed_bcdValue hn] at hsum hflags
    obtain ⟨u, hu⟩ := daa_of_packed (t := aluWith s .adc n) (Nat.mod_lt _ (by decide)) <|
      (congrArg₂ daaSpec hsum hflags).trans (daaSpec_sum (bcdValue_lt ha) (bcdValue_lt hn) hc)
    exact ⟨aluWith s .adc n, u, exec_aluImm .adc n s, hu⟩
  · obtain ⟨hdiff, hflags⟩ := aluSpec_compute .sbc s.a n s.f.c
    rw [← packed_bcdValue ha, ← packed_bcdValue hn] at hdiff hflags
    obtain ⟨u, hu⟩ := daa_of_packed (t := aluWith s .sbc n) (Nat.mod_lt _ (by decide)) <|
      (congrArg₂ daaSpec hdiff hflags).trans
        (daaSpec_difference (bcdValue_lt ha) (bcdValue_lt hn) hc)
    exact ⟨aluWith s .sbc n, u, exec_aluImm .sbc n s, hu⟩

/-! ## CPL, SCF and CCF -/

theorem getLsbD_xor_ones (v : Byte) {i : Nat} (hi : i < 8) :
    (v ^^^ 0xFF).getLsbD i = !v.getLsbD i := by
  have h : (0xFF : Byte) = BitVec.allOnes 8 := rfl
  rw [h, BitVec.xor_allOnes, BitVec.getLsbD_not, decide_eq_true hi, Bool.true_and]

/-- An instruction that writes only F, in the words of the statements. -/
theorem setsFlags_of_exec {i : Instr} {s : State} {g : Flags}
    (h : exec i s = .next { s with f := g }) : SetsFlags i s g :=
  ⟨_, h, rfl, keeps_withF (keeps_refl s) g, rfl, rfl, rfl⟩

/-- Settles O47: CPL writes A and F, SCF and CCF write F alone. -/
theorem complementAndCarryFlags : Obligations.ComplementAndCarryFlags := fun s =>
  ⟨⟨_, rfl, fun _ hi => getLsbD_xor_ones s.a hi, rfl, setR8_withF_frame s .a _ _⟩,
    setsFlags_of_exec rfl, setsFlags_of_exec rfl⟩

end Sys2Proof.Proofs
end

section
/-! PROOFS. The 16-bit arithmetic of 42_alu16.md: each instruction is one internal M-cycle and the write of
a pair, and ADD HL,rr writes F as well. -/

namespace Sys2Proof.Proofs

open Sys2Proof.Machine Sys2Proof.Claims Sys2Proof.Laws

/-! ## ADD HL,rr -/

theorem regHL_addToHL (s : State) (p : Reg16) : regHL (addToHL s p) = regHL s + r16 s p :=
  mkWord_halves (regHL s + r16 s p)

/-- HL and F are written after the internal M-cycle, and nothing else (R500). -/
theorem addToHL_frame (s : State) (p : Reg16) :
    Keeps [.h, .l] s (addToHL s p) ∧ (addToHL s p).sp = s.sp ∧ (addToHL s p).pc = s.pc ∧
      Waits 1 s (addToHL s p) := by
  have hkeeps : Keeps [.h, .l] s (setHL (internal s) (regHL s + r16 s p)) :=
    keeps_after (internal_regs s).regs (setHL_keeps _ _)
  exact ⟨keeps_withF hkeeps _, (internal_regs s).sp, (internal_regs s).pc,
    waits_regs (internal_waits s) rfl⟩

/-! ## INC rr and DEC rr -/

theorem setR16_sp_of_ne (s : State) {p : Reg16} (hp : p ≠ .sp) (w : Word) :
    (setR16 s p w).sp = s.sp := by
  cases p
  case sp => exact absurd rfl hp
  all_goals rfl

theorem r16_stepPair_toNat (s : State) (p : Reg16) (d : Word) :
    (r16 (stepPair s p d) p).toNat = ((r16 s p).toNat + d.toNat) % 65536 :=
  (congrArg BitVec.toNat (r16_setR16_self (internal s) p _)).trans (BitVec.toNat_add _ _)

/-- The pair is written after the internal M-cycle, and nothing else (R501, R502). -/
theorem stepPair_frame (s : State) (p : Reg16) (d : Word) :
    Keeps (halves p) s (stepPair s p d) ∧ (p ≠ .sp → (stepPair s p d).sp = s.sp) ∧
      (stepPair s p d).f = s.f ∧ (stepPair s p d).pc = s.pc ∧ Waits 1 s (stepPair s p d) := by
  have hregs : SameRegs s (internal s) := internal_regs s
  exact ⟨keeps_after hregs.regs (setR16_keeps _ p _),
    fun hp => (setR16_sp_of_ne _ hp _).trans hregs.sp, (setR16_f _ p _).trans hregs.f,
    (setR16_pc _ p _).trans hregs.pc, waits_regs (internal_waits s) (setR16_regsOnly _ p _)⟩

/-- Settles O48: `addToHL` writes the 16-bit sum and `addHLFlags`, whose carries past 0xFFF and 0xFFFF are
those of the statement, and `stepPair` moves the pair by 1, or by -1, which is 65535 modulo 2^16. -/
theorem pairArithmetic : Obligations.PairArithmetic := fun p s =>
  ⟨⟨_, exec_addHL p s,
      (congrArg BitVec.toNat (regHL_addToHL s p)).trans (BitVec.toNat_add _ _), rfl,
      addToHL_frame s p⟩,
    ⟨_, exec_incPair p s, r16_stepPair_toNat s p 1, stepPair_frame s p 1⟩,
    ⟨_, exec_decPair p s, r16_stepPair_toNat s p (-1), stepPair_frame s p (-1)⟩⟩

end Sys2Proof.Proofs
end

section
/-! PROOFS. The rotates, shifts and bit operations of 43_rotate_bit.md: every bit of the shifted byte and of
the byte with one bit reset or set, and from them the register and the (HL) forms. -/

namespace Sys2Proof.Proofs

open Sys2Proof.Machine Sys2Proof.Claims Sys2Proof.Laws

/-! ## The bits of a shift -/

theorem getLsbD_oneBit (v : Byte) (k : Nat) : (v.extractLsb' k 1).getLsbD 0 = v.getLsbD k := by
  rw [BitVec.getLsbD_extractLsb', decide_eq_true Nat.one_pos, Bool.true_and, Nat.add_zero]

/-- A shift to the left: the bit `x` enters at bit 0. -/
theorem getLsbD_shiftLeft (v : Byte) (x : BitVec 1) {i : Nat} (hi : i < 8) :
    (v.extractLsb' 0 7 ++ x).getLsbD i = if i = 0 then x.getLsbD 0 else v.getLsbD (i - 1) := by
  rw [BitVec.getLsbD_append, BitVec.getLsbD_extractLsb', Nat.zero_add]
  by_cases h : i = 0
  · rw [if_pos h, if_pos (by omega), h]
  · rw [if_neg h, if_neg (by omega), decide_eq_true (by omega), Bool.true_and]

/-- A shift to the right: the bit `x` enters at bit 7. -/
theorem getLsbD_shiftRight (v : Byte) (x : BitVec 1) {i : Nat} (hi : i < 8) :
    (x ++ v.extractLsb' 1 7).getLsbD i = if i = 7 then x.getLsbD 0 else v.getLsbD (i + 1) := by
  rw [BitVec.getLsbD_append, BitVec.getLsbD_extractLsb', Nat.add_comm 1]
  by_cases h : i = 7
  · rw [if_pos h, if_neg (by omega), h]
  · rw [if_neg h, if_pos (by omega), decide_eq_true (by omega), Bool.true_and]

theorem getLsbD_swap (v : Byte) {i : Nat} (hi : i < 8) :
    (v.extractLsb' 0 4 ++ v.extractLsb' 4 4).getLsbD i = v.getLsbD ((i + 4) % 8) := by
  simp only [BitVec.getLsbD_append, BitVec.getLsbD_extractLsb']
  by_cases h : i < 4
  · rw [if_pos h, decide_eq_true h, Bool.true_and, Nat.mod_eq_of_lt (by omega), Nat.add_comm]
  · rw [if_neg h, decide_eq_true (by omega), Bool.true_and]
    exact congrArg v.getLsbD (by omega)

/-- The model's shift of R626, bit by bit. -/
theorem isShift_shift (o : RotOp) (v : Byte) (c : Bool) : IsShift o v c (shift o v c).1 := by
  intro i hi
  cases o with
  | rlc =>
    refine (getLsbD_shiftLeft v _ hi).trans ?_
    rw [getLsbD_oneBit]
    split <;> exact congrArg v.getLsbD (by omega)
  | rrc =>
    refine (getLsbD_shiftRight v _ hi).trans ?_
    rw [getLsbD_oneBit]
    split <;> exact congrArg v.getLsbD (by omega)
  | rl => exact (getLsbD_shiftLeft v _ hi).trans (by rw [BitVec.getLsbD_ofBool]; rfl)
  | rr => exact (getLsbD_shiftRight v _ hi).trans (by rw [BitVec.getLsbD_ofBool]; rfl)
  | sla => exact getLsbD_shiftLeft v 0 hi
  | sra => exact (getLsbD_shiftRight v _ hi).trans (by rw [getLsbD_oneBit]; rfl)
  | srl => exact getLsbD_shiftRight v 0 hi
  | swap => exact getLsbD_swap v hi

/-- The bit shifted out is the model's carry (R626). -/
theorem shift_snd (o : RotOp) (v : Byte) (c : Bool) : (shift o v c).2 = shiftOut o v := by
  cases o <;> rfl

/-! ## Rotates, shifts and SWAP -/

theorem shiftFlags_shift (o : RotOp) (v : Byte) (c : Bool) :
    shiftFlags (shift o v c) =
      { z := (shift o v c).1 == 0, n := false, h := false, c := shiftOut o v } :=
  congrArg (Flags.mk _ false false) (shift_snd o v c)

theorem accRotFlags_shift (o : RotOp) (v : Byte) (c : Bool) :
    accRotFlags (shift o v c) = { z := false, n := false, h := false, c := shiftOut o v } :=
  congrArg (Flags.mk false false false) (shift_snd o v c)

/-- Settles O49: both forms write one register and F, from `shift`. -/
theorem rotatesAndShiftsOfRegisters : Obligations.RotatesAndShiftsOfRegisters := by
  constructor
  · intro s c hc
    have hexec : exec c.1 s = .next (rotateA s c.2) := by fin_cases hc <;> rfl
    exact ⟨_, hexec, isShift_shift c.2 s.a s.f.c, accRotFlags_shift c.2 s.a s.f.c,
      setR8_withF_frame s .a _ _⟩
  · intro o r s
    have hval : r8 (rotateReg s o r) r = (shift o (r8 s r) s.f.c).1 := r8_setR8_withF s r _ _
    refine ⟨_, exec_rotReg o r s, ?_, ?_, setR8_withF_frame s r _ _⟩
    · rw [hval]
      exact isShift_shift o (r8 s r) s.f.c
    · rw [hval]
      exact shiftFlags_shift o (r8 s r) s.f.c

/-- Settles O50: `modifyHL` with the shift and the flags of the register forms. -/
theorem rotatesAndShiftsOfMemory : Obligations.RotatesAndShiftsOfMemory := by
  intro o s
  refine readsThenWrites_of_exec (g := fun v => (shift o v s.f.c).1)
    (fun v => isShift_shift o v s.f.c) ?_
  rw [exec_rotMem, rotateMemHL, shiftFlags_shift]

/-! ## BIT, RES and SET -/

theorem getLsbD_bitMask (b : Fin 8) {i : Nat} (hi : i < 8) :
    (bitMask b).getLsbD i = decide (i = b.val) := by
  rw [bitMask, BitVec.getLsbD_ofNat, decide_eq_true hi, Bool.true_and, Nat.testBit_two_pow]
  exact decide_eq_decide.mpr eq_comm

theorem getLsbD_resBit (v : Byte) (b : Fin 8) {i : Nat} (hi : i < 8) :
    (resBit v b).getLsbD i = (v.getLsbD i && decide (i ≠ b.val)) := by
  rw [resBit, BitVec.getLsbD_and, BitVec.getLsbD_not, getLsbD_bitMask b hi, decide_eq_true hi,
    Bool.true_and, decide_not]

theorem getLsbD_setBit (v : Byte) (b : Fin 8) {i : Nat} (hi : i < 8) :
    (setBit v b).getLsbD i = (v.getLsbD i || decide (i = b.val)) := by
  rw [setBit, BitVec.getLsbD_or, getLsbD_bitMask b hi]

/-- Settles O51: BIT writes F alone, on (HL) after one MemRead. -/
theorem bitTests : Obligations.BitTests := fun b r s =>
  ⟨setsFlags_of_exec (exec_bitReg b r s),
    ⟨_, exec_bitMem b s, rfl, keeps_withF (memRead_regs s _).regs _, rfl, rfl,
      waits_regs (memRead_waits s _) rfl⟩⟩

/-- What a write of one register leaves alone, F included. -/
theorem setR8_frame (s : State) (q : Reg8) (v : Byte) :
    Keeps [q] s (setR8 s q v) ∧ (setR8 s q v).f = s.f ∧ (setR8 s q v).sp = s.sp ∧
      (setR8 s q v).pc = s.pc ∧ RegsOnly s (setR8 s q v) :=
  ⟨setR8_keeps s q v, setR8_f s q v, setR8_sp s q v, setR8_pc s q v, setR8_regsOnly s q v⟩

/-- An instruction that is `modifyHL` alone: it leaves F as it was. -/
theorem readsThenWrites_of_modifyHL {i : Instr} {s : State} {g : Byte → Byte}
    {G : Byte → Byte → Prop} (hg : ∀ v, G v (g v)) (h : exec i s = .next (modifyHL s g)) :
    ReadsThenWrites i s G (fun _ _ => s.f) := by
  have hf : (modifyHL s g).f = s.f := by simp [modifyHL]
  refine readsThenWrites_of_exec hg ?_
  rw [h, ← hf]

/-- Settles O52: RES and SET write `resBit` and `setBit` of the register, or of the byte at HL. -/
theorem bitsResetAndSet : Obligations.BitsResetAndSet := by
  intro b r s
  refine ⟨⟨_, exec_resReg b r s, fun i hi => ?_, setR8_frame s r _⟩,
    ⟨_, exec_setReg b r s, fun i hi => ?_, setR8_frame s r _⟩,
    readsThenWrites_of_modifyHL (fun v _ hi => getLsbD_resBit v b hi) (exec_resMem b s),
    readsThenWrites_of_modifyHL (fun v _ hi => getLsbD_setBit v b hi) (exec_setMem b s)⟩
  · rw [resReg, r8_setR8_self, getLsbD_resBit _ b hi]
  · rw [setReg, r8_setR8_self, getLsbD_setBit _ b hi]

end Sys2Proof.Proofs
end

section
/-! PROOFS. The control transfers of 44_control.md: a write of PC after M-cycles that store nothing, or after
a push, and the conditions that choose it. -/

namespace Sys2Proof.Proofs

open Sys2Proof.Machine Sys2Proof.Claims Sys2Proof.Laws

/-! ## The conditions -/

theorem cond_iff_taken (f : Flags) (k : Cond) : cond f k = true ↔ Taken f k := by
  cases k <;> simp [Machine.cond, Taken]

/-- A conditional form whose condition holds ends in its taken state (R701). -/
theorem exec_of_taken {i : Instr} {s t u : State} {k : Cond}
    (h : exec i s = .next (if cond s.f k then t else u)) (hk : Taken s.f k) : exec i s = .next t := by
  rw [h, if_pos ((cond_iff_taken s.f k).2 hk)]

/-- A conditional form whose condition is false ends in its other state (R701). -/
theorem exec_of_not_taken {i : Instr} {s t u : State} {k : Cond}
    (h : exec i s = .next (if cond s.f k then t else u)) (hk : ¬ Taken s.f k) :
    exec i s = .next u := by
  rw [h, if_neg (mt (cond_iff_taken s.f k).1 hk)]

/-! ## JP and JR -/

/-- PC is none of A to L. -/
theorem keeps_withPc {l : List Reg8} {s t : State} (h : Keeps l s t) (w : Word) :
    Keeps l s { t with pc := w } :=
  fun q hq => (h q hq).symm ▸ by cases q <;> rfl

/-- A write of PC after `n` M-cycles that leave A to L and F is a jump, with SP as they left it. -/
theorem jumpsAfter_withPc {n : Nat} {s t : State} (hregs : Keeps [] s t) (hf : t.f = s.f)
    (hwaits : Waits n s t) (w : Word) : JumpsAfter n s { t with pc := w } w t.sp :=
  ⟨rfl, rfl, keeps_withPc hregs w, hf, waits_regs hwaits rfl⟩

theorem internal_jumpsAfter (s : State) : JumpsAfter 1 s (internal s) s.pc s.sp :=
  ⟨rfl, rfl, (internal_regs s).regs, (internal_regs s).f, internal_waits s⟩

theorem jumpTo_jumpsAfter (s : State) (w : Word) : JumpsAfter 1 s (jumpTo s w) w s.sp :=
  jumpsAfter_withPc (internal_regs s).regs (internal_regs s).f (internal_waits s) w

theorem jumpRel_jumpsAfter (s : State) (e : Byte) :
    JumpsAfter 1 s (jumpRel s e) (displaced s.pc e) s.sp :=
  add_sext16 s.pc e ▸ jumpTo_jumpsAfter s (s.pc + sext16 e)

/-- Settles O53: every jump but JP HL is `jumpTo` or `jumpRel`, and JP HL is the write of PC alone. -/
theorem jumpsSetPc : Obligations.JumpsSetPc := by
  intro s k nn e
  refine ⟨⟨_, rfl, jumpTo_jumpsAfter s nn⟩, ⟨_, rfl, ?_⟩, ⟨_, rfl, jumpRel_jumpsAfter s e⟩,
    fun hk => ⟨?_, ?_⟩, fun hk => ⟨?_, ?_⟩⟩
  · exact jumpsAfter_withPc (keeps_refl s) rfl (regsOnly_waits rfl) (regHL s)
  · exact ⟨_, exec_of_taken (exec_jpCond k nn s) hk, jumpTo_jumpsAfter s nn⟩
  · exact ⟨_, exec_of_taken (exec_jrCond k e s) hk, jumpRel_jumpsAfter s e⟩
  · exact exec_of_not_taken (exec_jpCond k nn s) hk
  · exact exec_of_not_taken (exec_jrCond k e s) hk

/-! ## CALL and RST -/

/-- A push of PC after one internal M-cycle, then the write of PC, in the words of the statements. -/
theorem calls_of_pushesWord {i : Instr} {s u : State} {w : Word}
    (h : exec i s = .next { u with pc := w }) (hpush : PushesWord (internal s) u s.pc) :
    Calls i s w := by
  obtain ⟨hsp, hregs, hf, -, hhidden, hticks, hframe⟩ := pushesWord_after_internal hpush
  have hjump : Waits 0 u { u with pc := w } := regsOnly_waits rfl
  exact ⟨u, _, h, rfl, rfl, hpush, hsp, keeps_withPc hregs w, hf,
    sameHidden_trans hhidden hjump.hidden, hticks,
    fun x hx h1 h2 => (hjump.bytes x hx).trans (hframe x hx h1 h2)⟩

/-- An instruction that is `callTo` calls its target. -/
theorem calls_of_exec {i : Instr} {s : State} {w : Word} (h : exec i s = .next (callTo s w)) :
    Calls i s w :=
  calls_of_pushesWord h (pushWord_pushes _ _)

/-- Settles O54: CALL, a taken CALL cc and RST are `callTo` at their targets. -/
theorem callsPushTheReturnAddress : Obligations.CallsPushTheReturnAddress := fun s k nn y =>
  ⟨calls_of_exec rfl, calls_of_exec (exec_rst y s),
    fun hk => calls_of_exec (exec_of_taken (exec_callCond k nn s) hk),
    exec_of_not_taken (exec_callCond k nn s)⟩

/-! ## RET, RETI and RET cc -/

/-- The M-cycles of two jumps in a row add up, and the second says where PC and SP end. -/
theorem jumpsAfter_trans {m n : Nat} {s t u : State} {v w p q : Word} (h : JumpsAfter m s t v p)
    (k : JumpsAfter n t u w q) : JumpsAfter (m + n) s u w q := by
  obtain ⟨-, -, hregs, hf, hwaits⟩ := h
  obtain ⟨kpc, ksp, kregs, kf, kwaits⟩ := k
  exact ⟨kpc, ksp, keeps_trans hregs kregs, kf.trans hf, waits_trans hwaits kwaits⟩

theorem popWord_sp (s : State) : (popWord s).2.sp = s.sp + 2 := by
  simp [BitVec.add_assoc]

/-- Two pops and one internal M-cycle before PC is written (R709). -/
theorem returnPop_jumpsAfter (s : State) :
    JumpsAfter 3 s (returnPop s) (popWord s).1 (s.sp + 2) := by
  have hregs : Keeps [] s (internal (popWord s).2) :=
    keeps_trans (popWord_keeps s) (internal_regs _).regs
  have hwaits : Waits 3 s (internal (popWord s).2) :=
    waits_trans (popWord_waits s) (internal_waits _)
  exact popWord_sp s ▸ jumpsAfter_withPc hregs (by simp) hwaits (popWord s).1

/-- But for the deferred enable, RETI returns as RET does (R711). -/
theorem returnFromInterrupt_withEiPending (s : State) :
    { returnFromInterrupt s with eiPending := s.eiPending } = returnPop s := by
  rw [← (returnPop_calm s).hidden.eiPending, returnFromInterrupt]

/-- Settles O55: each is `returnPop`; RETI's one difference is the deferred enable, and RET cc's internal
M-cycle comes first. -/
theorem returnsPopPc : Obligations.ReturnsPopPc := by
  intro s k
  refine ⟨⟨_, _, rfl, popWord_popsValue s, returnPop_jumpsAfter s⟩,
    ⟨_, _, rfl, popWord_popsValue s, rfl, ?_⟩, fun hk => ?_, fun hk => ?_⟩
  · rw [returnFromInterrupt_withEiPending]
    exact returnPop_jumpsAfter s
  · exact ⟨_, _, exec_of_taken (exec_retCond k s) hk, popWord_popsValue (internal s),
      jumpsAfter_trans (internal_jumpsAfter s) (returnPop_jumpsAfter (internal s))⟩
  · exact ⟨_, exec_of_not_taken (exec_retCond k s) hk, internal_jumpsAfter s⟩

end Sys2Proof.Proofs
end

section
/-! PROOFS. The CPU control of 45_system.md: PREFIX CB, the halt bug at the fetch, HALT's two branches,
and the interrupt decision of a running CPU with IME off. -/

namespace Sys2Proof.Proofs

open Sys2Proof.Machine Sys2Proof.Claims Sys2Proof.Laws

/-! ## PREFIX CB -/

/-- The instruction of the fields x, y and z of a secondary opcode (R207). -/
def groupInstr : Nat → Fin 8 → Option Reg8 → Instr
  | 0, y, some r => .rotReg (rotOfCode y) r
  | 0, y, none => .rotMem (rotOfCode y)
  | 1, y, some r => .bitReg y r
  | 1, y, none => .bitMem y
  | 2, y, some r => .resReg y r
  | 2, y, none => .resMem y
  | _, y, some r => .setReg y r
  | _, y, none => .setMem y

/-- Each instruction does the operation that PREFIX CB reads from the same fields. -/
theorem exec_groupInstr (s : State) : ∀ (x : Nat) (y : Fin 8) (z : Option Reg8),
    exec (groupInstr x y z) s = .next (secondaryGroup s x y z)
  | 0, y, some r => exec_rotReg (rotOfCode y) r s
  | 0, y, none => exec_rotMem (rotOfCode y) s
  | 1, y, some r => exec_bitReg y r s
  | 1, y, none => exec_bitMem y s
  | 2, y, some r => exec_resReg y r s
  | 2, y, none => exec_resMem y s
  | _ + 3, y, some r => exec_setReg y r s
  | _ + 3, y, none => exec_setMem y s

/-- The secondary map, row by row, names the instruction of the opcode's fields (R207, R211). -/
theorem secondaryInstr_eq_groupInstr (n : Byte) :
    secondaryInstr n = groupInstr (n.toNat / 64) (Fin.ofNat 8 (n.toNat / 8))
      (regOfCode (Fin.ofNat 8 n.toNat)) := by
  induction n using forall_opcode with
  | h row hrow col hcol => interval_cases row <;> interval_cases col <;> rfl

/-- Settles O59: the map's instruction is that of the fields, which PREFIX CB reads too. -/
theorem prefixRunsTheSecondaryTable : Obligations.PrefixRunsTheSecondaryTable := by
  intro n s
  refine ⟨secondary s n, rfl, ?_⟩
  rw [secondaryInstr_eq_groupInstr, exec_groupInstr, secondary]

/-! ## The fetch and the idle cycle -/

/-- Settles O7: the fetch reads its operand where the halt bug left PC, on the 0xCB itself, so the bytes
read spell CB CB. -/
theorem haltBugReadsPrefixTwice : Obligations.HaltBugReadsPrefixTwice := by
  intro s hbug hfree hbyte
  have hCB : BytesAt s s.pc [0xCB] := ⟨hfree, hbyte, trivial⟩
  have hheld : (fetchOpcode s).2.pc = s.pc := by rw [fetchOpcode_pc, if_pos hbug]
  have hspells : Spells [0xCB, 0xCB] .set_1_e := .cb rfl 0xCB
  obtain ⟨hinstr, hleaves⟩ := fetchInstr_spells hspells hCB (hheld.symm ▸ hCB)
  exact ⟨hinstr, hheld ▸ hleaves.pc, hleaves.haltBug⟩

/-- Settles O6: both are one MemRead at PC, and then the fields that each sets. -/
theorem fetchOpcodeAndHaltBug : Obligations.FetchOpcodeAndHaltBug := by
  intro s
  obtain ⟨hpc, hregs, hf, hsp, hwaits⟩ := fetchByte_advances s
  exact ⟨⟨memRead_fst s s.pc, fetchOpcode_haltBug s, fetchOpcode_pc s, fetchOpcode_opAddr s,
      fetchOpcode_keeps s, fetchOpcode_f s, fetchOpcode_sp s, fetchOpcode_waits s⟩,
    ⟨memRead_fst s s.pc, hpc, hregs, hf, hsp, hwaits⟩⟩

theorem clockCpu_of_waiting {s : State} (hf : s.fault = none)
    (hw : s.halted = true ∨ s.stopped = true) : clockCpu s = .next (idleCycle s) := by
  simp [clockCpu, hf, hw]

/-- Settles O9: the idle cycle is the MemRead at PC. -/
theorem idleCycleReadsOnce : Obligations.IdleCycleReadsOnce := fun s hf hw =>
  ⟨_, clockCpu_of_waiting hf hw, rfl, memRead_regs s s.pc, memRead_waits s s.pc⟩

/-! ## HALT -/

theorem pendingSource_isSome (s : State) : (pendingSource s).isSome = true ↔ pendMask s ≠ 0 := by
  rw [Option.isSome_iff_ne_none, ne_eq, pendingSource_none]

/-- HALT's choice, in the spec's words: IME off with an enabled interrupt pending (R801). -/
theorem haltCpu_eq (s : State) :
    haltCpu s = if s.ime = false ∧ pendMask s ≠ 0 then { s with haltBug := true }
      else { s with halted := true, pc := s.pc - 1 } := by
  simp only [haltCpu, Bool.and_eq_true, Bool.not_eq_true', pendingSource_isSome]

/-- Settles O56: the two branches of `haltCpu`. -/
theorem haltWaitsOrSetsHaltBug : Obligations.HaltWaitsOrSetsHaltBug := fun s =>
  ⟨fun h => congrArg _ ((haltCpu_eq s).trans (if_pos h)),
   fun h => congrArg _ ((haltCpu_eq s).trans (if_neg h))⟩

/-! ## NOP, STOP, DI, EI and the illegal bytes -/

/-- Settles O57: each is one arm of `exec`. -/
theorem nopStopDiEi : Obligations.NopStopDiEi := fun _ => ⟨rfl, rfl, rfl, rfl⟩

/-- Settles O58: every one of the eleven is `illegalOpcode` at its byte. -/
theorem illegalBytesRaiseTheFault : Obligations.IllegalBytesRaiseTheFault := exec_illegal

/-! ## The deferred enable -/

theorem wakeFromHalt_of_running {s : State} (h : s.halted = false) : wakeFromHalt s = s := by
  obtain ⟨⟩ := s
  subst h
  rfl

theorem withStopped_of_running {s : State} (h : s.stopped = false) :
    { s with stopped := false } = s := by
  rw [← h]

/-- With IME off a running CPU dispatches nothing, whatever is pending: the decision spends the deferred
enable alone (R920, R922). -/
theorem serviceInterrupts_of_ime_off {s : State} (hh : s.halted = false) (hi : s.ime = false) :
    serviceInterrupts s = enablePending s := by
  unfold serviceInterrupts
  split
  · rfl
  · rw [if_neg (by simp [hi]), wakeFromHalt_of_running hh]

theorem handleInterrupts_of_ime_off {s : State} (hf : s.fault = none) (hs : s.stopped = false)
    (hh : s.halted = false) (hi : s.ime = false) : handleInterrupts s = enablePending s := by
  rw [handleInterrupts, if_neg (by simp [hf]), if_neg (by simp [hs]), withStopped_of_running hs,
    serviceInterrupts_of_ime_off hh hi]

/-- Settles O26: EI's own step still decides with IME off, and then spends the enable that EI asked for. -/
theorem eiTakesEffectAfterItsStep : Obligations.EiTakesEffectAfterItsStep := by
  intro s hf hs hh hi
  refine ⟨{ s with eiPending := true }, rfl, ?_⟩
  rw [handleInterrupts_of_ime_off (s := { s with eiPending := true }) hf hs hh hi, enablePending,
    Bool.or_true]

end Sys2Proof.Proofs
end

section
/-! PROOFS. The fatal fault of 60_exceptions.md: what it stops, that nothing else stops a step, who raises
it, and the load that does (R900 to R903). -/

namespace Sys2Proof.Proofs

open Sys2Proof.Machine Sys2Proof.Claims Sys2Proof.Laws

/-! ## The fault state -/

theorem clockCpu_of_fault {s : State} (h : s.fault ≠ none) : clockCpu s = .next s :=
  if_pos (Option.isSome_iff_ne_none.2 h)

theorem handleInterrupts_of_fault {s : State} (h : s.fault ≠ none) : handleInterrupts s = s :=
  if_pos (Option.isSome_iff_ne_none.2 h)

theorem hostReset_of_fault {s : State} (h : s.fault ≠ none) : hostReset s = s :=
  if_pos (Option.isSome_iff_ne_none.2 h)

theorem loadCartridge_of_fault {s : State} (h : s.fault ≠ none) (img : Image) (save : List Byte) :
    loadCartridge s img save = s :=
  if_pos (Option.isSome_iff_ne_none.2 h)

/-- A step is refused only for want of a cartridge, and a fault comes first (R900, log 1). -/
theorem step_eq_thenHandle {s : State} (h : s.fault ≠ none ∨ s.cart.variant ≠ .absent) :
    step s = thenHandle (clockCpu { s with ticks := 0 }) := by
  refine if_neg fun hrefused => ?_
  simp only [Bool.and_eq_true, Option.isNone_iff_eq_none, decide_eq_true_eq] at hrefused
  obtain ⟨hfault, habsent⟩ := hrefused
  exact h.elim (absurd hfault) (absurd habsent)

theorem step_of_fault {s : State} (h : s.fault ≠ none) : step s = .next { s with ticks := 0 } := by
  rw [step_eq_thenHandle (.inl h), clockCpu_of_fault (s := { s with ticks := 0 }) h]
  exact congrArg Host.Outcome.next (handleInterrupts_of_fault (s := { s with ticks := 0 }) h)

/-- Settles O8: each operation asks for a fault first. -/
theorem faultStateIsTerminal : Obligations.FaultStateIsTerminal := fun _ _ =>
  ⟨rfl, fun h => ⟨clockCpu_of_fault h, handleInterrupts_of_fault h, step_of_fault h,
    hostReset_of_fault h, loadCartridge_of_fault h⟩⟩

/-! ## Nothing but a missing cartridge stops a step -/

/-- ClockCpu always answers a next state, as every instruction does (`exec_next`). -/
theorem clockCpu_next (s : State) : ∃ t, clockCpu s = .next t := by
  unfold clockCpu
  split_ifs
  · exact ⟨_, rfl⟩
  · exact ⟨_, rfl⟩
  · exact exec_next _ _

/-- Settles O10: a step that is not refused is ClockCpu, which answers, and then HandleInterrupts. -/
theorem stepAlwaysAnswersNext : Obligations.StepAlwaysAnswersNext := by
  refine fun s => ⟨fun h => ?_, fun hfault habsent => ?_⟩
  · obtain ⟨u, hu⟩ := clockCpu_next { s with ticks := 0 }
    exact ⟨handleInterrupts u, by rw [step_eq_thenHandle h, hu, thenHandle]⟩
  · exact if_pos (by simp [hfault, habsent])

/-! ## Who raises a fault -/

theorem haltCpu_fault (s : State) : (haltCpu s).fault = s.fault := by
  rcases haltCpu_cases s with e | e
  · rw [e]
  · rw [e]

/-- An instruction keeps the fault field, unless it is an illegal byte's (R60, R807). -/
theorem fault_of_ran {i : Instr} {s t : State} (h : Ran i s t) :
    t.fault = s.fault ∨ ∃ k, i = .illegal k ∧ t = illegalOpcode s (illegalByte k) := by
  cases hiddenEffect_of_ran h with
  | calm c => exact .inl c.hidden.fault
  | di | ei | stop => exact .inl rfl
  | reti => exact .inl (returnPop_calm s).hidden.fault
  | halt => exact .inl (haltCpu_fault s)
  | illegal k => exact .inr ⟨k, rfl, rfl⟩

/-- An interrupt entry's M-cycles raise nothing (R921). -/
@[simp] theorem dispatch_fault (s : State) (k : Fin 5) : (dispatch s k).fault = s.fault := by
  simp [dispatch]

@[simp] theorem serviceInterrupts_fault (s : State) : (serviceInterrupts s).fault = s.fault := by
  unfold serviceInterrupts
  split
  · rfl
  · split
    · exact dispatch_fault _ _
    · rfl

@[simp] theorem handleInterrupts_fault (s : State) : (handleInterrupts s).fault = s.fault := by
  unfold handleInterrupts
  split_ifs
  · rfl
  · rfl
  · exact serviceInterrupts_fault _

theorem fetchInstr_fault (s : State) : (fetchInstr s).2.fault = s.fault :=
  (fetchOperands_calm _ _).hidden.fault.trans (fetchOpcode_fault s)

/-- The opcode's address survives the operand fetch (log 13). -/
theorem fetchInstr_opAddr (s : State) : (fetchInstr s).2.opAddr = s.pc :=
  (fetchOperands_calm _ _).hidden.opAddr.trans (fetchOpcode_opAddr s)

/-- A fetched illegal instruction is its opcode byte: the maps read backwards (R210). -/
theorem busByte_of_fetched_illegal {s : State} {k : Fin 11} (h : (fetchInstr s).1 = .illegal k)
    (hfree : periphOwned s.pc = false) : busByte s s.pc = illegalByte k := by
  have hspelled : encode (fetchInstr s).1 = (fetchOpcode s).1 :: _ := encode_assemble _ _ _
  rw [h, encode_illegal] at hspelled
  have hop : (fetchOpcode s).1 = busByte s s.pc := (accessCycle_waits s).bytes s.pc hfree
  exact hop.symm.trans (List.head_eq_of_cons_eq hspelled).symm

/-- ClockCpu raises a fault only by fetching an illegal byte, and records that byte and where it stood
(R807, R901, R903). -/
theorem clockCpu_raises {s t : State} (hs : s.fault = none) (h : clockCpu s = .next t)
    (ht : t.fault ≠ none) :
    ∃ k, t.fault = some (.illegalOpcode (illegalByte k) s.pc) ∧ (fetchInstr s).1 = .illegal k := by
  rcases clockCpu_cases h with ⟨-, rfl⟩ | ⟨-, -, rfl⟩ | ⟨-, -, -, ran⟩
  · exact absurd hs ht
  · exact absurd ((memRead_fault s s.pc).trans hs) ht
  · rcases fault_of_ran ran with hkept | ⟨k, hi, rfl⟩
    · exact absurd (hkept.trans ((fetchInstr_fault s).trans hs)) ht
    · exact ⟨k, congrArg (some ∘ Fault.illegalOpcode (illegalByte k)) (fetchInstr_opAddr s), hi⟩

/-- Settles O11: HandleInterrupts keeps the fault field, so ClockCpu raised it. -/
theorem onlyIllegalBytesFault : Obligations.OnlyIllegalBytesFault := by
  intro s t hs h ht
  obtain ⟨u, hu, rfl⟩ := coreStep_cases h
  rw [handleInterrupts_fault] at ht ⊢
  obtain ⟨k, hrecord, hfetched⟩ := clockCpu_raises (s := { s with ticks := 0 }) hs hu ht
  refine ⟨k, hrecord, hfetched, fun hfree => ?_⟩
  exact (busByte_congr (s := { s with ticks := 0 }) hfree rfl rfl rfl).trans
    (busByte_of_fetched_illegal hfetched hfree)

/-! ## The load that raises a fault -/

/-- The cartridge types of R140, and the variant of each. -/
theorem variantOf_eq (type : Byte) :
    variantOf type =
      if type.toNat ∈ [0x00, 0x01, 0x02, 0x03, 0x0F, 0x10, 0x11, 0x12, 0x13] then
        some (if type.toNat = 0 then .noBanking else if type.toNat ≤ 3 then .mbc1 else .mbc3)
      else none := by
  revert type
  decide

/-- The RAM sizes of R142 as a list over the RAM-size byte. -/
theorem ramLenOf_eq (code : Byte) :
    ramLenOf code = [0, 0x800, 0x2000, 0x8000, 0x20000, 0x10000].getD code.toNat 0 := by
  revert code
  decide

theorem loadCartridge_of_too_long {s : State} {img : Image} (save : List Byte) (hs : s.fault = none)
    (hlen : img.len > 0x800000) :
    loadCartridge s img save =
      raiseFatal s (.unsupportedCartridge (imageByte img 0x0147) img.len) := by
  rw [loadCartridge, if_neg (by simp [hs]), if_pos hlen]

theorem loadCartridge_of_unknown {s : State} {img : Image} (save : List Byte) (hs : s.fault = none)
    (hv : variantOf (imageByte img 0x0147) = none) :
    loadCartridge s img save =
      raiseFatal s (.unsupportedCartridge (imageByte img 0x0147) img.len) := by
  rw [loadCartridge, if_neg (by simp [hs]), hv, ite_self]

theorem loadCartridge_of_known {s : State} {img : Image} {v : Variant} (save : List Byte)
    (hs : s.fault = none) (hlen : img.len ≤ 0x800000)
    (hv : variantOf (imageByte img 0x0147) = some v) :
    loadCartridge s img save = { s with cart := loadedCart v img save } := by
  rw [loadCartridge, if_neg (by simp [hs]), if_neg (by omega), hv]

/-- The RAM length that a load builds, from the header's type and RAM-size bytes (R142). -/
theorem loadRamLen_eq {img : Image} {v : Variant} (hv : variantOf (imageByte img 0x0147) = some v) :
    loadRamLen v img = if (imageByte img 0x0147).toNat = 0 then 0
      else [0, 0x800, 0x2000, 0x8000, 0x20000, 0x10000].getD (imageByte img 0x0149).toNat 0 := by
  rw [variantOf_eq] at hv
  rw [← ramLenOf_eq]
  split_ifs at hv with _ h0 h3
  all_goals cases hv
  · rw [if_pos h0, loadRamLen]
  · rw [if_neg h0, loadRamLen]
  · rw [if_neg h0, loadRamLen]

/-- Settles O22: the image's length and its type byte decide, and `loadedCart` is what a good image
gives. -/
theorem loadCartridgeOutcome : Obligations.LoadCartridgeOutcome := by
  intro s img save hs
  refine ⟨fun hbad => ?_, fun hlen htype => ?_⟩
  · rcases hbad with hlen | htype
    · exact loadCartridge_of_too_long save hs hlen
    · exact loadCartridge_of_unknown save hs ((variantOf_eq _).trans (if_neg htype))
  · have hv := (variantOf_eq (imageByte img 0x0147)).trans (if_pos htype)
    rw [loadCartridge_of_known save hs hlen hv]
    exact ⟨rfl, rfl, rfl, rfl, loadRamLen_eq hv, rfl, rfl, rfl, rfl, rfl, rfl, rfl, rfl⟩

end Sys2Proof.Proofs
end

section
/-! PROOFS. The interrupt controller of 60_exceptions.md: the entry of an interrupt, and HandleInterrupts
branch by branch (R920, R921). -/

namespace Sys2Proof.Proofs

open Sys2Proof.Machine Sys2Proof.Claims Sys2Proof.Laws

/-! ## The entry -/

/-- Before its M-cycles an entry turns interrupts off and drops the deferred enable (R921). -/
def interruptsOff (s : State) : State := { s with ime := false, eiPending := false }

/-- An entry from its push on: one more internal M-cycle, and then IF and PC are written (R921). -/
theorem dispatch_after_push (s : State) (k : Fin 5) :
    ∃ u, PushesWord (internal (internal (interruptsOff s))) u s.pc ∧
      dispatch s k = { internal u with
        iflag := (internal u).iflag &&& ~~~(BitVec.ofNat 8 (2 ^ k.val)), pc := vector k } :=
  ⟨_, pushWord_pushes _ _, rfl⟩

/-- What an entry's five M-cycles leave: SP two lower, 20 ticks passed, and no byte changed outside the
reach of the two stores. -/
structure EntryLeaves (s t : State) : Prop where
  sp : t.sp = s.sp - 2
  regs : Keeps [] s t
  f : t.f = s.f
  hidden : SameHidden (interruptsOff s) t
  ticks : t.ticks = s.ticks + 20
  frame : ∀ x, periphOwned x = false → storeReach (s.sp - 1) x = false →
    storeReach (s.sp - 2) x = false → busByte t x = busByte s x

theorem interruptsOff_keeps (s : State) : Keeps [] s (interruptsOff s) :=
  fun q _ => by cases q <;> rfl

/-- The push stands between internal M-cycles, which keep registers and store nothing. -/
theorem entryLeaves_of_pushesWord {s u : State}
    (h : PushesWord (internal (internal (interruptsOff s))) u s.pc) : EntryLeaves s (internal u) := by
  obtain ⟨hsp, hregs, hf, -, hhidden, hticks, hframe⟩ := pushesWord_leaves h
  have regs : SameRegs (interruptsOff s) (internal (internal (interruptsOff s))) :=
    sameRegs_trans (internal_regs _) (internal_regs _)
  have before : Waits 2 (interruptsOff s) (internal (internal (interruptsOff s))) :=
    waits_trans (internal_waits _) (internal_waits _)
  have after : Waits 1 u (internal u) := internal_waits u
  rw [regs.sp] at hsp hframe
  refine ⟨hsp, ?_, hf.trans regs.f,
    sameHidden_trans (sameHidden_trans before.hidden hhidden) after.hidden, ?_, ?_⟩
  · exact keeps_trans (keeps_trans (keeps_trans (interruptsOff_keeps s) regs.regs) hregs)
      (internal_regs u).regs
  · rw [after.ticks, hticks, before.ticks]
    rfl
  · intro x hx h1 h2
    calc busByte (internal u) x = busByte u x := after.bytes x hx
      _ = busByte (internal (internal (interruptsOff s))) x := hframe x hx h1 h2
      _ = busByte (interruptsOff s) x := before.bytes x hx
      _ = busByte s x := busByte_congr hx rfl rfl rfl

/-- A write of IF and PC changes no byte but IF, which the Peripherals may change too (R913). -/
theorem busByte_withIflagPc (s : State) (v : Byte) (w : Word) {x : Word}
    (hx : periphOwned x = false) : busByte { s with iflag := v, pc := w } x = busByte s x :=
  busByte_congr hx rfl rfl rfl

theorem keeps_withIflagPc {l : List Reg8} {s t : State} (h : Keeps l s t) (v : Byte) (w : Word) :
    Keeps l s { t with iflag := v, pc := w } :=
  keeps_trans h fun q _ => by cases q <;> rfl

/-- The mask of R921 clears its bit and no other. -/
theorem getLsbD_clear_bit (v : Byte) (k : Fin 5) (j : Nat) :
    (v &&& ~~~(BitVec.ofNat 8 (2 ^ k.val))).getLsbD j = (v.getLsbD j && decide (j ≠ k.val)) := by
  by_cases hj : j < 8
  · simp only [BitVec.getLsbD_and, BitVec.getLsbD_not, BitVec.getLsbD_ofNat, Nat.testBit_two_pow, hj,
      decide_true, Bool.true_and, decide_not, eq_comm]
  · rw [BitVec.getLsbD_of_ge _ _ (by omega), BitVec.getLsbD_of_ge v _ (by omega), Bool.false_and]

theorem dispatch_ticks (s : State) (k : Fin 5) : (dispatch s k).ticks = s.ticks + 20 := by
  obtain ⟨u, hpush, hu⟩ := dispatch_after_push s k
  rw [hu]
  exact (entryLeaves_of_pushesWord hpush).ticks

/-- Settles O25: IF and PC are written after the M-cycles, from what IF then holds. -/
theorem dispatchSavesPcAndEntersVector : Obligations.DispatchSavesPcAndEntersVector := by
  intro s k
  obtain ⟨u, hpush, hu⟩ := dispatch_after_push s k
  obtain ⟨hsp, hregs, hf, hhidden, hticks, hframe⟩ := entryLeaves_of_pushesWord hpush
  obtain ⟨hime, hei, hhalted, hbug, hstopped, hfault, -⟩ := hhidden
  rw [hu]
  exact ⟨u, hpush, rfl, getLsbD_clear_bit _ k, hime, hei, hsp, keeps_withIflagPc hregs _ _, hf,
    hhalted, hbug, hstopped, hfault, hticks,
    fun x hx h1 h2 => (busByte_withIflagPc _ _ _ hx).trans (hframe x hx h1 h2)⟩

/-! ## The decision -/

theorem handleInterrupts_of_stopped {s : State} (hs : s.stopped = true)
    (hj : s.iflag.getLsbD 4 = false) : handleInterrupts s = s := by
  simp only [handleInterrupts, hs, hj, Bool.not_false, Bool.and_self, if_true, ite_self]

/-- A CPU that does not stop, or whose stop a joypad request ends, decides (R920, R928). -/
theorem handleInterrupts_of_awake {s : State} (hf : s.fault = none)
    (h : s.stopped = false ∨ s.iflag.getLsbD 4 = true) :
    handleInterrupts s = serviceInterrupts { s with stopped := false } := by
  rw [handleInterrupts, if_neg (by simp [hf]), if_neg]
  rcases h with h | h
  · simp [h]
  · simp [h]

theorem serviceInterrupts_of_none {s : State} (h : pendMask s = 0) :
    serviceInterrupts s = enablePending s := by
  rw [serviceInterrupts, (pendingSource_none s).2 h]

theorem serviceInterrupts_of_some {s : State} {k : Fin 5} (h : pendingSource s = some k) :
    serviceInterrupts s =
      if s.ime then dispatch (wakeFromHalt s) k else enablePending (wakeFromHalt s) := by
  rw [serviceInterrupts, h]

theorem exists_pendingSource {s : State} (h : pendMask s ≠ 0) : ∃ k, pendingSource s = some k :=
  Option.isSome_iff_exists.1 ((pendingSource_isSome s).2 h)

/-- Settles O24: with a pending interrupt IME decides between the entry and the deferred enable, after
the wake. -/
theorem handleInterruptsDecision : Obligations.HandleInterruptsDecision := by
  intro s
  refine ⟨handleInterrupts_of_fault, fun _ => handleInterrupts_of_stopped, fun hf hawake => ?_⟩
  have hdecide := handleInterrupts_of_awake hf hawake
  refine ⟨fun hnone => ?_, fun hsome hime => ?_, fun hsome hime => ?_⟩
  · exact hdecide.trans (serviceInterrupts_of_none (s := { s with stopped := false }) hnone)
  · obtain ⟨k, hk⟩ := exists_pendingSource (s := { s with stopped := false }) hsome
    have hentry := hdecide.trans ((serviceInterrupts_of_some hk).trans (if_pos hime))
    exact ⟨k, pendingSource_some _ k hk, hentry, hentry ▸ dispatch_ticks _ k⟩
  · obtain ⟨k, hk⟩ := exists_pendingSource (s := { s with stopped := false }) hsome
    rw [hdecide, serviceInterrupts_of_some hk, if_neg (by simp [hime]), enablePending]
    simp [hime, wakeFromHalt]

end Sys2Proof.Proofs
end

section
/-! PROOFS. LoadCartridge and Reset keep the invariant (R1000, R1010). -/

namespace Sys2Proof.Proofs

open Sys2Proof.Machine Sys2Proof.Claims Sys2Proof.Laws

/-- Reset lists nothing in the flat array, and nothing waits or is pending after it. -/
theorem hostReset_inv {s : State} (h : Inv s) : Inv (hostReset s) := by
  by_cases hf : s.fault = none
  · rw [hostReset_eq hf]
    exact ⟨empty_wf _, empty_within _, empty_wf _, empty_within _, h.cart, rfl, by simp [resetCpu],
      fun _ => rfl⟩
  · rwa [hostReset_of_fault hf]

/-- A fold of writes to addresses of a region stays in the region. -/
theorem foldl_write_within {α : Type} (dflt : Nat → Byte) (p : Nat → Bool) (g : α → Nat) (v : α → Byte)
    (l : List α) (m : List Host.Cell) (hl : ∀ x ∈ l, p (g x) = true) (hm : Memory.within p m) :
    Memory.within p (l.foldl (fun m x => Memory.write dflt m (g x) (v x)) m) := by
  induction l generalizing m with
  | nil => exact hm
  | cons x l ih =>
    exact ih _ (fun y hy => hl y (List.mem_cons_of_mem _ hy))
      (write_within dflt p m _ _ (hl x List.mem_cons_self) hm)

/-- The save bytes that a load copies in stand inside the RAM (R161). -/
theorem loadRam_within (n : Nat) (save : List Byte) :
    Memory.within (fun a => decide (a < n)) (loadRam n save) := by
  refine foldl_write_within zeroByte _ (fun vi : Byte × Nat => vi.2) (fun vi => vi.1) _ []
    (fun vi hvi => decide_eq_true ?_) (empty_within _)
  have hlt := List.snd_lt_of_mem_zipIdx hvi
  rw [List.length_take] at hlt
  omega

/-- The RAM-size byte selects one of the sizes of R142. -/
theorem ramLenOf_mem (code : Byte) : ramLenOf code ∈ [0, 0x800, 0x2000, 0x8000, 0x10000, 0x20000] := by
  revert code
  decide

theorem loadRamLen_mem (v : Variant) (img : Image) :
    loadRamLen v img ∈ [0, 0x800, 0x2000, 0x8000, 0x10000, 0x20000] := by
  cases v with
  | absent | noBanking => exact List.mem_cons_self
  | mbc1 | mbc3 => exact ramLenOf_mem _

/-- The cartridge of a canonical image meets the cartridge's invariant (R160, R1010). -/
theorem loadedCart_inv (v : Variant) {img : Image} (save : List Byte)
    (hwf : Memory.wf zeroByte img.bytes)
    (hin : Memory.within (fun a => decide (a < img.len)) img.bytes) (hlen : img.len ≤ 0x800000) :
    CartInv (loadedCart v img save) where
  rom_wf := hwf
  rom_within := hin
  rom_bound := hlen
  eram_wf := loadRam_wf _ save
  eram_within := loadRam_within _ save
  ram_sizes := loadRamLen_mem v img
  no_banking := by rintro (rfl | rfl) <;> exact ⟨rfl, rfl⟩
  bank_nonzero := by show (1 : BitVec 7) ≠ 0; decide

/-- The fault record is no part of the invariant. -/
theorem raiseFatal_inv {s : State} (h : Inv s) (r : Fault) : Inv (raiseFatal s r) :=
  ⟨h.mem_wf, h.mem_within, h.io_wf, h.io_within, h.cart, h.enable_spent, h.one_wait, h.wait_no_bug⟩

theorem inv_withCart {s : State} (h : Inv s) {k : Cart} (hk : CartInv k) : Inv { s with cart := k } :=
  ⟨h.mem_wf, h.mem_within, h.io_wf, h.io_within, hk, h.enable_spent, h.one_wait, h.wait_no_bug⟩

/-- A load of a canonical image keeps the invariant, whether the core is faulted, refuses the image or
takes it (R900, R902, R1010). -/
theorem loadCartridge_inv {s : State} (h : Inv s) {img : Image} (save : List Byte)
    (hwf : Memory.wf zeroByte img.bytes)
    (hin : Memory.within (fun a => decide (a < img.len)) img.bytes) :
    Inv (loadCartridge s img save) := by
  by_cases hf : s.fault = none
  · by_cases hlen : img.len ≤ 0x800000
    · cases hv : variantOf (imageByte img 0x0147) with
      | none =>
        rw [loadCartridge_of_unknown save hf hv]
        exact raiseFatal_inv h _
      | some v =>
        rw [loadCartridge_of_known save hf hlen hv]
        exact inv_withCart h (loadedCart_inv v save hwf hin hlen)
    · rw [loadCartridge_of_too_long save hf (not_le.1 hlen)]
      exact raiseFatal_inv h _
  · rwa [loadCartridge_of_fault hf]

/-- Settles O20: Reset empties the flat array, and a load replaces the cartridge alone. -/
theorem loadAndResetKeepInv : Obligations.LoadAndResetKeepInv := fun _ h =>
  ⟨hostReset_inv h, fun _ save hwf hin => loadCartridge_inv h save hwf hin⟩

end Sys2Proof.Proofs
end

section
/-! PROOFS. The final state is final (R1022, R1033): its step is an idle cycle after which HandleInterrupts
has nothing to decide. -/

namespace Sys2Proof.Proofs

open Sys2Proof.Machine Sys2Proof.Claims Sys2Proof.Laws

/-- From `s` to `t` time may pass, but no register, hidden state, IE, cartridge field or byte that is not
the Peripherals' changes. -/
structure Rests (s t : State) : Prop where
  regs : SameRegs s t
  hidden : SameHidden s t
  ie : t.ie = s.ie
  cart : t.cart = s.cart
  bytes : ∀ x, periphOwned x = false → busByte t x = busByte s x

theorem Rests.refl (s : State) : Rests s s :=
  ⟨sameRegs_refl s, sameHidden_refl s, rfl, rfl, fun _ _ => rfl⟩

theorem Rests.trans {s t u : State} (h : Rests s t) (k : Rests t u) : Rests s u :=
  ⟨sameRegs_trans h.regs k.regs, sameHidden_trans h.hidden k.hidden, k.ie.trans h.ie,
    k.cart.trans h.cart, fun x hx => (k.bytes x hx).trans (h.bytes x hx)⟩

/-- The three conditions of R1022 (a) are about what stays. -/
theorem Rests.final {s t : State} (h : Rests s t) (hs : Final s) : Final t := by
  obtain ⟨hfault, hhalted, hie⟩ := hs
  exact ⟨h.hidden.fault.trans hfault, h.hidden.halted.trans hhalted, by rw [h.ie, hie]⟩

/-- The tick counter is none of what rests. -/
theorem zeroTicks_rests (s : State) : Rests s { s with ticks := 0 } :=
  ⟨⟨fun q _ => by cases q <;> rfl, rfl, rfl, rfl⟩, ⟨rfl, rfl, rfl, rfl, rfl, rfl, rfl⟩, rfl, rfl,
    fun _ hx => busByte_congr hx rfl rfl rfl⟩

theorem idleCycle_rests (s : State) : Rests s (idleCycle s) := by
  obtain ⟨hhidden, hcart, hie, -, hbytes, -⟩ := memRead_waits s s.pc
  exact ⟨memRead_regs s s.pc, hhidden, hie, hcart, hbytes⟩

/-- With none of the five interrupts enabled none is pending, whatever the Peripherals request. -/
theorem pendMask_of_none_enabled {s : State} (h : s.ie &&& 0x1F = 0) : pendMask s = 0 := by
  rw [pendMask, BitVec.and_assoc, BitVec.and_comm s.iflag, ← BitVec.and_assoc, h]
  exact BitVec.zero_and

theorem enablePending_of_spent {s : State} (h : s.eiPending = false) : enablePending s = s := by
  obtain ⟨⟩ := s
  subst h
  simp [enablePending]

/-- Without a stop, a deferred enable or an enabled interrupt HandleInterrupts has nothing to do (R920). -/
theorem handleInterrupts_of_none_enabled {s : State} (hf : s.fault = none) (hs : s.stopped = false)
    (he : s.eiPending = false) (hie : s.ie &&& 0x1F = 0) : handleInterrupts s = s := by
  rw [handleInterrupts_of_awake hf (.inl hs), withStopped_of_running hs,
    serviceInterrupts_of_none (pendMask_of_none_enabled hie), enablePending_of_spent he]

/-- A step from a final state is an idle cycle and nothing else (R941, R1033). -/
theorem step_of_final {s t : State} (h : Inv s) (hfin : Final s) (e : step s = .next t) :
    t = idleCycle { s with ticks := 0 } := by
  obtain ⟨hf, hh, hie⟩ := hfin
  obtain ⟨u, hu, rfl⟩ := coreStep_cases e
  rw [clockCpu_of_waiting (s := { s with ticks := 0 }) hf (.inl hh)] at hu
  cases hu
  have hs : s.stopped = false := Bool.eq_false_iff.2 fun hs => h.one_wait ⟨hh, hs⟩
  exact handleInterrupts_of_none_enabled (s := idleCycle { s with ticks := 0 }) hf hs h.enable_spent hie

theorem step_rests {s t : State} (h : Inv s) (hfin : Final s) (e : step s = .next t) : Rests s t := by
  rw [step_of_final h hfin e]
  exact (zeroTicks_rests s).trans (idleCycle_rests _)

/-- A run of `n + 1` steps that answers a next state is a step that does, and a run of `n`. -/
theorem run_succ_cases {M : Host.Core} {n : Nat} {s t : M.State} (h : M.run (n + 1) s = .next t) :
    ∃ u, M.step s = .next u ∧ M.run n u = .next t := by
  unfold Host.Core.run at h
  split at h
  · rename_i u hstep
    exact ⟨u, hstep, h⟩
  · cases h
  · cases h

/-- The induction of O12: the invariant and finality hold again after each step. -/
theorem run_rests {n : Nat} {s t : State} (h : Inv s) (hfin : Final s)
    (e : Host.Core.run Sys2Proof.core n s = .next t) : Rests s t := by
  induction n generalizing s with
  | zero =>
    cases e
    exact .refl _
  | succ n ih =>
    obtain ⟨u, hstep, hrun⟩ := run_succ_cases (M := Sys2Proof.core) e
    have hrest := step_rests h hfin hstep
    exact hrest.trans (ih (stepKeepsInv s u h hstep) (hrest.final hfin) hrun)

/-- Settles O12: a final state rests, and what rests is final. -/
theorem finalIsForever : Obligations.FinalIsForever := by
  intro n s t h hfin e
  have hrest := run_rests h hfin e
  exact ⟨hrest.final hfin, hrest.regs, hrest.hidden, hrest.ie, hrest.cart, hrest.bytes⟩

end Sys2Proof.Proofs
end

section
/-! PROOFS. The ticks of a whole step (R1021, R1039): those of the fetch and the instruction, or of the
idle cycle, and those of an interrupt entry. -/

namespace Sys2Proof.Proofs

open Sys2Proof.Machine Sys2Proof.Claims Sys2Proof.Laws

/-! ## The M-cycles of the fetch -/

theorem fetchByte_spends (s : State) : Spends 1 0 s (fetchByte s).2 :=
  (memRead_spends s s.pc).free rfl rfl

theorem fetchOpcode_spends (s : State) : Spends 1 0 s (fetchOpcode s).2 :=
  (memRead_spends s s.pc).free rfl rfl

theorem fetchOperands_spends (s : State) (m : Format) :
    Spends (operandReads m) 0 s (fetchOperands s m).2 := by
  cases m with
  | p1 => exact .refl s
  | p2 | cb => exact fetchByte_spends s
  | p3 => exact (fetchByte_spends s).trans (fetchByte_spends _)
  | stop => exact .none rfl rfl

/-- The opcode alone fixes how many M-cycles the fetch has (R200, R803). -/
theorem fetchCycles_assemble (op n1 n2 : Byte) :
    fetchCycles (assemble op n1 n2) = 1 + operandReads (formatOf op) := by
  by_cases hop : op = 0x10
  · subst hop
    rfl
  · have hne : assemble op n1 n2 ≠ .stop := fun e =>
      hop (List.head_eq_of_cons_eq ((encode_assemble op n1 n2).symm.trans (congrArg encode e)))
    rw [fetchCycles_of_ne_stop hne, instrLength, encode_assemble, List.length_cons, Nat.add_comm]
    cases hm : formatOf op with
    | p1 | p2 | p3 | cb => rfl
    | stop => exact absurd (formatOf_eq_stop.1 hm) hop

/-- The instruction fetched is made of the opcode and two operand bytes (R201). -/
theorem fetchInstr_assembled (s : State) :
    ∃ n1 n2, (fetchInstr s).1 = assemble (fetchOpcode s).1 n1 n2 := ⟨_, _, rfl⟩

theorem fetchInstr_spends (s : State) :
    Spends (fetchCycles (fetchInstr s).1) 0 s (fetchInstr s).2 := by
  obtain ⟨n1, n2, hi⟩ := fetchInstr_assembled s
  rw [hi, fetchCycles_assemble]
  exact (fetchOpcode_spends s).trans (fetchOperands_spends _ _)

theorem fetchOperands_f (s : State) (m : Format) : (fetchOperands s m).2.f = s.f := by
  cases m with
  | p1 | stop => rfl
  | p2 | cb => exact fetchByte_f s
  | p3 => exact (fetchByte_f _).trans (fetchByte_f s)

theorem fetchInstr_f (s : State) : (fetchInstr s).2.f = s.f :=
  (fetchOperands_f _ _).trans (fetchOpcode_f s)

/-! ## Ticks and delivered clocks -/

/-- From `s` to `t` pass `n` ticks, a `Clock(4)` delivered for every 4 of them but those of `int` Internal
M-cycles under PER_ACCESS (R13, R940). -/
structure Takes (n int : Nat) (s t : State) : Prop where
  ticks : t.ticks = s.ticks + n
  clocks : 4 * (t.clocks + silent int) = 4 * s.clocks + n

theorem Spends.takes {acc int : Nat} {s t : State} (h : Spends acc int s t) :
    Takes (4 * (acc + int)) int s t := by
  obtain ⟨ht, hc⟩ := h
  exact ⟨ht, by omega⟩

theorem Takes.trans {a b m n : Nat} {s t u : State} (h : Takes a m s t) (k : Takes b n t u) :
    Takes (a + b) (m + n) s u := by
  obtain ⟨ht, hc⟩ := h
  obtain ⟨kt, kc⟩ := k
  exact ⟨by omega, by rw [silent_add]; omega⟩

/-- The fetch and its instruction together cost what the maps say of the opcode fetched (O14). -/
theorem fetched_takes {s t : State} (h : exec (fetchInstr s).1 (fetchInstr s).2 = .next t) :
    ∃ n, Takes (totalTicks (fetchOpcode s).1 n s.f) (internalCycles (fetchOpcode s).1 s.f) s t := by
  obtain ⟨n1, n2, hi⟩ := fetchInstr_assembled s
  obtain ⟨hfetch, hdelivered⟩ := (fetchInstr_spends s).takes
  obtain ⟨u, hu, hticks, hclocks⟩ := cycleCosts (fetchOpcode s).1 n1 n2 (fetchInstr s).2
  rw [hi] at h hfetch hdelivered
  cases hu.symm.trans h
  rw [fetchInstr_f] at hticks hclocks
  have hnone : silent 0 = 0 := by simp [silent]
  exact ⟨n1, by omega, by omega⟩

/-- The ticks of ClockCpu: 4 while the CPU waits, else what the maps say of the opcode at PC, for its next
byte `n` (R210, R802). -/
def cpuTicks (s : State) (n : Byte) : Nat :=
  if s.halted || s.stopped then 4 else totalTicks (busByte (accessCycle s) s.pc) n s.f

/-- The Internal M-cycles among them. -/
def cpuInternals (s : State) : Nat :=
  if s.halted || s.stopped then 0 else internalCycles (busByte (accessCycle s) s.pc) s.f

theorem clockCpu_of_running {s : State} (hf : s.fault = none) (hh : s.halted = false)
    (hs : s.stopped = false) : clockCpu s = exec (fetchInstr s).1 (fetchInstr s).2 := by
  simp [clockCpu, hf, hh, hs]

/-- ClockCpu is an idle cycle, or a fetch and its instruction. -/
theorem clockCpu_takes {s t : State} (hf : s.fault = none) (h : clockCpu s = .next t) :
    ∃ n, Takes (cpuTicks s n) (cpuInternals s) s t := by
  unfold cpuTicks cpuInternals
  split_ifs with hw
  · rw [clockCpu_of_waiting hf (Bool.or_eq_true _ _ ▸ hw)] at h
    cases h
    exact ⟨0, (memRead_spends s s.pc).takes⟩
  · obtain ⟨hh, hs⟩ := Bool.or_eq_false_iff.1 (Bool.eq_false_iff.2 hw)
    rw [clockCpu_of_running hf hh hs] at h
    exact fetched_takes h

/-! ## The interrupt entry -/

theorem dispatch_takes (s : State) (k : Fin 5) : Takes 20 3 s (dispatch s k) := by
  refine ⟨dispatch_ticks s k, ?_⟩
  rw [dispatch_clocks, silent]
  split_ifs <;> omega

theorem serviceInterrupts_takes (s : State) :
    ∃ d ≤ 1, Takes (20 * d) (3 * d) s (serviceInterrupts s) := by
  have idle {t : State} (ht : t.ticks = s.ticks) (hc : t.clocks = s.clocks) :
      ∃ d ≤ 1, Takes (20 * d) (3 * d) s t := ⟨0, Nat.zero_le 1, (Spends.none ht hc).takes⟩
  unfold serviceInterrupts
  split
  · exact idle rfl rfl
  · rename_i k _
    split
    · obtain ⟨hticks, hclocks⟩ := dispatch_takes (wakeFromHalt s) k
      exact ⟨1, Nat.le_refl 1, hticks, hclocks⟩
    · exact idle rfl rfl

/-- HandleInterrupts takes the time of one dispatch or none (R920, R921). -/
theorem handleInterrupts_takes (s : State) :
    ∃ d ≤ 1, Takes (20 * d) (3 * d) s (handleInterrupts s) := by
  unfold handleInterrupts
  split_ifs
  · exact ⟨0, Nat.zero_le 1, (Spends.refl s).takes⟩
  · exact ⟨0, Nat.zero_le 1, (Spends.refl s).takes⟩
  · obtain ⟨d, hd, hticks, hclocks⟩ := serviceInterrupts_takes { s with stopped := false }
    exact ⟨d, hd, hticks, hclocks⟩

/-! ## The bounds of the maps -/

/-- The costs of the maps are 1 to 6 M-cycles (R210, R211). -/
@[reducible] def IsPrice (ticks : Nat) : Prop := 4 ∣ ticks ∧ 4 ≤ ticks ∧ ticks ≤ 24

theorem takenTicks_isPrice (op : Byte) : IsPrice (takenTicks op) := by
  revert op
  decide

theorem notTakenTicks_isPrice {op : Byte} {c : Nat} (h : notTakenTicks op = some c) : IsPrice c := by
  unfold notTakenTicks at h
  split_ifs at h
  · cases h
    decide
  · cases h
    decide

theorem prefixedTicks_isPrice (n : Byte) : IsPrice (prefixedTicks n) := by
  unfold prefixedTicks
  split_ifs <;> decide

theorem totalTicks_isPrice (op n : Byte) (f : Flags) : IsPrice (totalTicks op n f) := by
  unfold totalTicks
  split
  · exact prefixedTicks_isPrice n
  · split
    · exact takenTicks_isPrice op
    · split
      · exact takenTicks_isPrice op
      · exact notTakenTicks_isPrice ‹_›

theorem cpuTicks_isPrice (s : State) (n : Byte) : IsPrice (cpuTicks s n) := by
  unfold cpuTicks
  split
  · decide
  · exact totalTicks_isPrice _ n s.f

/-! ## The step -/

/-- A step takes ClockCpu's ticks and those of one dispatch or none, counted from zero (R1020). -/
theorem step_takes {s t : State} (hf : s.fault = none) (h : step s = .next t) :
    ∃ d ≤ 1, ∃ n, Takes (cpuTicks s n + 20 * d) (cpuInternals s + 3 * d) { s with ticks := 0 } t := by
  obtain ⟨u, hu, rfl⟩ := coreStep_cases h
  obtain ⟨n, hcpu⟩ := clockCpu_takes (s := { s with ticks := 0 }) hf hu
  obtain ⟨d, hd, hints⟩ := handleInterrupts_takes u
  exact ⟨d, hd, n, hcpu.trans hints⟩

/-- Settles O13: `step_takes`, with the maps' bounds; a faulted core's step only clears the count. -/
theorem ticksOfStep : Obligations.TicksOfStep := by
  intro s t h
  refine ⟨fun hf => ?_, fun hf => ?_⟩
  · obtain ⟨d, hd, n, hticks, hclocks⟩ := step_takes hf h
    obtain ⟨hdvd, hmin, hmax⟩ := cpuTicks_isPrice s n
    rw [Nat.zero_add] at hticks
    rw [← hticks] at hclocks
    exact ⟨by omega, by omega, by omega, d, hd, n, hticks, hclocks⟩
  · rw [step_of_fault hf] at h
    cases h
    exact ⟨rfl, rfl⟩

end Sys2Proof.Proofs
end
